-- ==== Sys2Proof/Word.lean ====
section
/-! DEFINITION. The word types of the host bus and of the 16-bit fields (10_state.md R24). -/

namespace Sys2Proof

/-- A 32-bit bus word or register (10_state.md R24). -/
abbrev Word := BitVec 32

/-- A 16-bit field or ENV_LUT entry (10_state.md R24, R40). -/
abbrev Half := BitVec 16

end Sys2Proof
end

