-- ==== Sys2Proof/Machine/Arith.lean ====
section
/-! DEFINITION. The arithmetic and narrowing primitives of 00_scope.md R13 and R14, on exact integers. -/

namespace Sys2Proof.Machine

/-- `asr(v, n)` = floor(v / 2^n) (00_scope.md R13). -/
def asr (v : Int) (n : Nat) : Int := v / (2 ^ n : Int)

/-- `fdiv(n, d)` = floor(n / d) for n >= 0 and d > 0 (00_scope.md R13). -/
def fdiv (n d : Nat) : Nat := n / d

/-- `tdiv(n, d)`, truncated toward zero, for d != 0 (00_scope.md R13). -/
def tdiv (n d : Int) : Int := Int.tdiv n d

/-- `round_div(n, d)` = floor((2n + d) / (2d)), ties up (00_scope.md R13). -/
def roundDiv (n d : Nat) : Nat := (2 * n + d) / (2 * d)

/-- `clamp(v, lo, hi)` on integers (00_scope.md R13). -/
def clampInt (v lo hi : Int) : Int := min (max v lo) hi

/-- `clamp(v, lo, hi)` on non-negative integers (00_scope.md R13). -/
def clampNat (v lo hi : Nat) : Nat := min (max v lo) hi

/-- `ceil_log2(v)`: the least e >= 0 with 2^e >= v, for v >= 1 (00_scope.md R13). -/
def ceilLog2 (v : Nat) : Nat := ((List.range (v + 1)).find? fun e => decide (v ≤ 2 ^ e)).getD 0

/-- `v & ~1`: bit 0 cleared (00_scope.md R11). -/
def clearBit0 (v : Nat) : Nat := v - v % 2

/-- `sat16(v)`: saturate to s16 (00_scope.md R14). -/
def sat16 (v : Int) : Int := clampInt v (-32768) 32767

/-- `satU(v, m)` for v >= 0 (00_scope.md R14). -/
def satU (v m : Nat) : Nat := min v m

/-- `wrap32(v)`: v mod 2^32, as a bus word (00_scope.md R14). -/
def wrap32 (v : Int) : Word := BitVec.ofInt 32 v

/-- An s16 result as its 16-bit two's-complement field (00_scope.md R11). -/
def s16 (v : Int) : Half := BitVec.ofInt 16 v

end Sys2Proof.Machine
end

