-- ==== Sys2Proof/Config.lean ====
section
/-! DEFINITION. The construction parameters (00_scope.md R8, R9) and the values that no rule fixes. -/

namespace Sys2Proof

/-- The construction parameters of 00_scope.md R8 and the ROM contents of 10_state.md R41 to R44, raw: an
ill-formed configuration can be written down, and is refused (10_state.md R45). SIN_SIZE and TAN_SIZE are
the lengths of their ROMs. -/
structure Config where
  /-- SIN_ROM (R41): entry k is the Q15 value of sin(2 pi k / SIN_SIZE). -/
  sinRom     : List Int
  /-- TAN_ROM (R42): entry k is the UQ15 value of tan(pi k / (4 TAN_SIZE)). -/
  tanRom     : List Nat
  /-- DB_MIN (R8), in tenths of a dB. -/
  dbMin      : Int
  /-- DB_MAX (R8), in tenths of a dB. -/
  dbMax      : Int
  /-- DB_ROM (R43): entry k is the UQ8 gain of (DB_MIN + k) tenths of a dB. -/
  dbRom      : List Nat
  /-- OCT_BASE (R8): the octave number of row 0 of PERIOD_ROM. -/
  octBase    : Nat
  /-- PERIOD_ROM (R44): 3 rows of 12 hardware periods. -/
  periodRom  : List (List Nat)
  /-- K_CORR (R8): the Q16 correction factor. -/
  kCorr      : Nat
  /-- MAX_AMP (R8). -/
  maxAmp     : Nat
  /-- ENV_MAX (R8): the representable maximum of an envelope entry. -/
  envMax     : Nat
  /-- CLOCK_RESET (R8): the reset value of CLOCK_HZ. -/
  clockReset : Word
  /-- ID_VALUE (R8). -/
  idValue    : Word
deriving DecidableEq, Repr

/-- SIN_SIZE (00_scope.md R8): the number of entries of the sine ROM. -/
def Config.sinSize (c : Config) : Nat := c.sinRom.length

/-- TAN_SIZE (00_scope.md R8): the number of entries of the tangent ROM. -/
def Config.tanSize (c : Config) : Nat := c.tanRom.length

/-- FREE VALUE: what the n-th host read of an output register while STATUS.BUSY = 1 returns
(20_memory.md R58: "any u32"; log 3). -/
opaque Config.freeRead : Nat → Word

/-- REG_BASE is this number times 2048 (20_memory.md R50: an open platform parameter, aligned to 2048
bytes; log 13). -/
opaque Config.regBasePage : Nat

/-- The number of the interrupt line at the host's interrupt controller (60_exceptions.md R128: an open platform
parameter; 93_implementation_defined.md part 1; log 13). -/
opaque Config.irqNumber : Nat

end Sys2Proof
end

