-- ==== Sys2Proof/Machine/ReferenceRoms.lean ====
section
/-! DEFINITION. The reference configuration: the reference values of 00_scope.md R8 and the reference ROM
contents of 10_state.md R41 to R44. The sine, tangent and decibel entries are evaluated from the formulas of
R41, R42 and R43 (log 8). -/

namespace Sys2Proof.Machine

/-- Entries 0 to 63 of SIN_ROM (10_state.md R41: floor(32767 sin(2 pi k / 256) + 1/2)). -/
def refSinPart0 : List Int :=
  [0, 804, 1608, 2410, 3212, 4011, 4808, 5602, 6393, 7179, 7962, 8739, 9512, 10278, 11039, 11793,
   12539, 13279, 14010, 14732, 15446, 16151, 16846, 17530, 18204, 18868, 19519, 20159, 20787, 21403, 22005, 22594,
   23170, 23731, 24279, 24811, 25329, 25832, 26319, 26790, 27245, 27683, 28105, 28510, 28898, 29268, 29621, 29956,
   30273, 30571, 30852, 31113, 31356, 31580, 31785, 31971, 32137, 32285, 32412, 32521, 32609, 32678, 32728, 32757]

/-- Entries 64 to 127 of SIN_ROM (10_state.md R41: floor(32767 sin(2 pi k / 256) + 1/2)). -/
def refSinPart1 : List Int :=
  [32767, 32757, 32728, 32678, 32609, 32521, 32412, 32285, 32137, 31971, 31785, 31580, 31356, 31113, 30852, 30571,
   30273, 29956, 29621, 29268, 28898, 28510, 28105, 27683, 27245, 26790, 26319, 25832, 25329, 24811, 24279, 23731,
   23170, 22594, 22005, 21403, 20787, 20159, 19519, 18868, 18204, 17530, 16846, 16151, 15446, 14732, 14010, 13279,
   12539, 11793, 11039, 10278, 9512, 8739, 7962, 7179, 6393, 5602, 4808, 4011, 3212, 2410, 1608, 804]

/-- Entries 128 to 191 of SIN_ROM (10_state.md R41: floor(32767 sin(2 pi k / 256) + 1/2)). -/
def refSinPart2 : List Int :=
  [0, -804, -1608, -2410, -3212, -4011, -4808, -5602, -6393, -7179, -7962, -8739, -9512, -10278, -11039, -11793,
   -12539, -13279, -14010, -14732, -15446, -16151, -16846, -17530, -18204, -18868, -19519, -20159, -20787, -21403, -22005, -22594,
   -23170, -23731, -24279, -24811, -25329, -25832, -26319, -26790, -27245, -27683, -28105, -28510, -28898, -29268, -29621, -29956,
   -30273, -30571, -30852, -31113, -31356, -31580, -31785, -31971, -32137, -32285, -32412, -32521, -32609, -32678, -32728, -32757]

/-- Entries 192 to 255 of SIN_ROM (10_state.md R41: floor(32767 sin(2 pi k / 256) + 1/2)). -/
def refSinPart3 : List Int :=
  [-32767, -32757, -32728, -32678, -32609, -32521, -32412, -32285, -32137, -31971, -31785, -31580, -31356, -31113, -30852, -30571,
   -30273, -29956, -29621, -29268, -28898, -28510, -28105, -27683, -27245, -26790, -26319, -25832, -25329, -24811, -24279, -23731,
   -23170, -22594, -22005, -21403, -20787, -20159, -19519, -18868, -18204, -17530, -16846, -16151, -15446, -14732, -14010, -13279,
   -12539, -11793, -11039, -10278, -9512, -8739, -7962, -7179, -6393, -5602, -4808, -4011, -3212, -2410, -1608, -804]

/-- The reference contents of SIN_ROM (10_state.md R41: floor(32767 sin(2 pi k / 256) + 1/2)). -/
def refSin : List Int :=
  refSinPart0 ++ refSinPart1 ++ refSinPart2 ++ refSinPart3

/-- Entries 0 to 63 of TAN_ROM (10_state.md R42: floor(32768 tan(pi k / 1024) + 1/2)). -/
def refTanPart0 : List Nat :=
  [0, 101, 201, 302, 402, 503, 603, 704, 804, 905, 1006, 1106, 1207, 1308, 1408, 1509,
   1610, 1711, 1811, 1912, 2013, 2114, 2215, 2316, 2417, 2518, 2619, 2721, 2822, 2923, 3024, 3126,
   3227, 3329, 3431, 3532, 3634, 3736, 3838, 3940, 4042, 4144, 4246, 4348, 4450, 4553, 4655, 4758,
   4861, 4963, 5066, 5169, 5272, 5376, 5479, 5582, 5686, 5789, 5893, 5997, 6101, 6205, 6309, 6414]

/-- Entries 64 to 127 of TAN_ROM (10_state.md R42: floor(32768 tan(pi k / 1024) + 1/2)). -/
def refTanPart1 : List Nat :=
  [6518, 6623, 6727, 6832, 6937, 7042, 7147, 7253, 7358, 7464, 7570, 7676, 7782, 7888, 7995, 8101,
   8208, 8315, 8422, 8529, 8637, 8744, 8852, 8960, 9068, 9176, 9285, 9394, 9503, 9612, 9721, 9830,
   9940, 10050, 10160, 10270, 10381, 10492, 10603, 10714, 10825, 10937, 11049, 11161, 11273, 11385, 11498, 11611,
   11725, 11838, 11952, 12066, 12180, 12295, 12410, 12525, 12640, 12756, 12872, 12988, 13104, 13221, 13338, 13455]

/-- Entries 128 to 191 of TAN_ROM (10_state.md R42: floor(32768 tan(pi k / 1024) + 1/2)). -/
def refTanPart2 : List Nat :=
  [13573, 13691, 13809, 13928, 14046, 14166, 14285, 14405, 14525, 14646, 14766, 14887, 15009, 15131, 15253, 15375,
   15498, 15621, 15745, 15869, 15993, 16118, 16243, 16368, 16494, 16620, 16747, 16874, 17001, 17129, 17257, 17386,
   17515, 17644, 17774, 17905, 18035, 18167, 18298, 18430, 18563, 18696, 18829, 18963, 19098, 19233, 19368, 19504,
   19640, 19777, 19915, 20053, 20191, 20330, 20470, 20610, 20750, 20891, 21033, 21175, 21318, 21461, 21605, 21750]

/-- Entries 192 to 255 of TAN_ROM (10_state.md R42: floor(32768 tan(pi k / 1024) + 1/2)). -/
def refTanPart3 : List Nat :=
  [21895, 22041, 22187, 22334, 22481, 22630, 22778, 22928, 23078, 23229, 23380, 23532, 23685, 23838, 23992, 24147,
   24302, 24459, 24615, 24773, 24931, 25091, 25250, 25411, 25572, 25735, 25897, 26061, 26226, 26391, 26557, 26724,
   26892, 27061, 27230, 27401, 27572, 27744, 27917, 28091, 28266, 28442, 28618, 28796, 28975, 29154, 29335, 29517,
   29699, 29883, 30067, 30253, 30440, 30628, 30817, 31007, 31198, 31390, 31583, 31778, 31973, 32170, 32368, 32568]

/-- The reference contents of TAN_ROM (10_state.md R42: floor(32768 tan(pi k / 1024) + 1/2)). -/
def refTan : List Nat :=
  refTanPart0 ++ refTanPart1 ++ refTanPart2 ++ refTanPart3

/-- Entries 0 to 63 of DB_ROM (10_state.md R43: floor(256 * 10^((DB_MIN + k)/200) + 1/2)). -/
def refDbPart0 : List Nat :=
  [1, 1, 1, 1, 1, 1, 1, 1, 1, 1, 1, 1, 1, 1, 1, 1,
   1, 1, 1, 1, 1, 1, 1, 1, 1, 1, 1, 1, 1, 1, 1, 1,
   1, 1, 2, 2, 2, 2, 2, 2, 2, 2, 2, 2, 2, 2, 2, 2,
   2, 2, 2, 2, 2, 2, 2, 2, 2, 2, 2, 2, 2, 2, 2, 2]

/-- Entries 64 to 127 of DB_ROM (10_state.md R43: floor(256 * 10^((DB_MIN + k)/200) + 1/2)). -/
def refDbPart1 : List Nat :=
  [2, 2, 2, 2, 2, 2, 2, 2, 2, 2, 2, 2, 2, 2, 3, 3,
   3, 3, 3, 3, 3, 3, 3, 3, 3, 3, 3, 3, 3, 3, 3, 3,
   3, 3, 3, 3, 3, 3, 3, 3, 3, 3, 3, 3, 4, 4, 4, 4,
   4, 4, 4, 4, 4, 4, 4, 4, 4, 4, 4, 4, 4, 4, 4, 4]

/-- Entries 128 to 191 of DB_ROM (10_state.md R43: floor(256 * 10^((DB_MIN + k)/200) + 1/2)). -/
def refDbPart2 : List Nat :=
  [4, 5, 5, 5, 5, 5, 5, 5, 5, 5, 5, 5, 5, 5, 5, 5,
   5, 5, 5, 6, 6, 6, 6, 6, 6, 6, 6, 6, 6, 6, 6, 6,
   6, 7, 7, 7, 7, 7, 7, 7, 7, 7, 7, 7, 7, 7, 8, 8,
   8, 8, 8, 8, 8, 8, 8, 8, 8, 9, 9, 9, 9, 9, 9, 9]

/-- Entries 192 to 255 of DB_ROM (10_state.md R43: floor(256 * 10^((DB_MIN + k)/200) + 1/2)). -/
def refDbPart3 : List Nat :=
  [9, 9, 10, 10, 10, 10, 10, 10, 10, 10, 10, 11, 11, 11, 11, 11,
   11, 11, 11, 12, 12, 12, 12, 12, 12, 12, 13, 13, 13, 13, 13, 13,
   13, 14, 14, 14, 14, 14, 14, 15, 15, 15, 15, 15, 15, 16, 16, 16,
   16, 16, 17, 17, 17, 17, 17, 18, 18, 18, 18, 18, 19, 19, 19, 19]

/-- Entries 256 to 319 of DB_ROM (10_state.md R43: floor(256 * 10^((DB_MIN + k)/200) + 1/2)). -/
def refDbPart4 : List Nat :=
  [19, 20, 20, 20, 20, 21, 21, 21, 21, 22, 22, 22, 22, 23, 23, 23,
   23, 24, 24, 24, 24, 25, 25, 25, 26, 26, 26, 26, 27, 27, 27, 28,
   28, 28, 29, 29, 29, 30, 30, 30, 31, 31, 31, 32, 32, 33, 33, 33,
   34, 34, 35, 35, 35, 36, 36, 37, 37, 37, 38, 38, 39, 39, 40, 40]

/-- Entries 320 to 383 of DB_ROM (10_state.md R43: floor(256 * 10^((DB_MIN + k)/200) + 1/2)). -/
def refDbPart5 : List Nat :=
  [41, 41, 42, 42, 42, 43, 43, 44, 44, 45, 46, 46, 47, 47, 48, 48,
   49, 49, 50, 50, 51, 52, 52, 53, 53, 54, 55, 55, 56, 57, 57, 58,
   59, 59, 60, 61, 61, 62, 63, 64, 64, 65, 66, 67, 67, 68, 69, 70,
   71, 71, 72, 73, 74, 75, 76, 76, 77, 78, 79, 80, 81, 82, 83, 84]

/-- Entries 384 to 447 of DB_ROM (10_state.md R43: floor(256 * 10^((DB_MIN + k)/200) + 1/2)). -/
def refDbPart6 : List Nat :=
  [85, 86, 87, 88, 89, 90, 91, 92, 93, 94, 95, 96, 97, 98, 100, 101,
   102, 103, 104, 105, 107, 108, 109, 110, 112, 113, 114, 116, 117, 118, 120, 121,
   123, 124, 125, 127, 128, 130, 131, 133, 134, 136, 137, 139, 141, 142, 144, 146,
   147, 149, 151, 152, 154, 156, 158, 160, 162, 163, 165, 167, 169, 171, 173, 175]

/-- Entries 448 to 511 of DB_ROM (10_state.md R43: floor(256 * 10^((DB_MIN + k)/200) + 1/2)). -/
def refDbPart7 : List Nat :=
  [177, 179, 181, 183, 185, 188, 190, 192, 194, 196, 199, 201, 203, 206, 208, 210,
   213, 215, 218, 220, 223, 226, 228, 231, 233, 236, 239, 242, 244, 247, 250, 253,
   256, 259, 262, 265, 268, 271, 274, 277, 281, 284, 287, 291, 294, 297, 301, 304,
   308, 311, 315, 319, 322, 326, 330, 334, 337, 341, 345, 349, 353, 357, 362, 366]

/-- Entries 512 to 575 of DB_ROM (10_state.md R43: floor(256 * 10^((DB_MIN + k)/200) + 1/2)). -/
def refDbPart8 : List Nat :=
  [370, 374, 379, 383, 387, 392, 396, 401, 406, 410, 415, 420, 425, 430, 435, 440,
   445, 450, 455, 461, 466, 471, 477, 482, 488, 493, 499, 505, 511, 517, 523, 529,
   535, 541, 547, 554, 560, 567, 573, 580, 586, 593, 600, 607, 614, 621, 628, 636,
   643, 650, 658, 666, 673, 681, 689, 697, 705, 713, 722, 730, 738, 747, 756, 764]

/-- Entries 576 to 639 of DB_ROM (10_state.md R43: floor(256 * 10^((DB_MIN + k)/200) + 1/2)). -/
def refDbPart9 : List Nat :=
  [773, 782, 791, 800, 810, 819, 828, 838, 848, 858, 867, 877, 888, 898, 908, 919,
   929, 940, 951, 962, 973, 985, 996, 1007, 1019, 1031, 1043, 1055, 1067, 1080, 1092, 1105,
   1117, 1130, 1144, 1157, 1170, 1184, 1197, 1211, 1225, 1239, 1254, 1268, 1283, 1298, 1313, 1328,
   1344, 1359, 1375, 1391, 1407, 1423, 1440, 1456, 1473, 1490, 1507, 1525, 1543, 1560, 1578, 1597]

/-- Entries 640 to 703 of DB_ROM (10_state.md R43: floor(256 * 10^((DB_MIN + k)/200) + 1/2)). -/
def refDbPart10 : List Nat :=
  [1615, 1634, 1653, 1672, 1691, 1711, 1731, 1751, 1771, 1792, 1812, 1833, 1855, 1876, 1898, 1920,
   1942, 1964, 1987, 2010, 2033, 2057, 2081, 2105, 2129, 2154, 2179, 2204, 2230, 2255, 2282, 2308,
   2335, 2362, 2389, 2417, 2445, 2473, 2502, 2531, 2560, 2590, 2620, 2650, 2681, 2712, 2743, 2775,
   2807, 2839, 2872, 2906, 2939, 2973, 3008, 3043, 3078, 3113, 3149, 3186, 3223, 3260, 3298, 3336]

/-- Entries 704 to 767 of DB_ROM (10_state.md R43: floor(256 * 10^((DB_MIN + k)/200) + 1/2)). -/
def refDbPart11 : List Nat :=
  [3375, 3414, 3453, 3493, 3534, 3575, 3616, 3658, 3700, 3743, 3787, 3830, 3875, 3920, 3965, 4011,
   4057, 4104, 4152, 4200, 4249, 4298, 4348, 4398, 4449, 4500, 4552, 4605, 4658, 4712, 4767, 4822,
   4878, 4934, 4992, 5049, 5108, 5167, 5227, 5287, 5349, 5411, 5473, 5537, 5601, 5666, 5731, 5797,
   5865, 5933, 6001, 6071, 6141, 6212, 6284, 6357, 6430, 6505, 6580, 6656, 6733, 6811, 6890, 6970]

/-- Entries 768 to 831 of DB_ROM (10_state.md R43: floor(256 * 10^((DB_MIN + k)/200) + 1/2)). -/
def refDbPart12 : List Nat :=
  [7051, 7132, 7215, 7299, 7383, 7469, 7555, 7643, 7731, 7821, 7911, 8003, 8095, 8189, 8284, 8380,
   8477, 8575, 8674, 8775, 8876, 8979, 9083, 9188, 9295, 9402, 9511, 9621, 9733, 9846, 9960, 10075,
   10192, 10310, 10429, 10550, 10672, 10795, 10920, 11047, 11175, 11304, 11435, 11568, 11701, 11837, 11974, 12113,
   12253, 12395, 12538, 12684, 12830, 12979, 13129, 13281, 13435, 13591, 13748, 13907, 14068, 14231, 14396, 14563]

/-- Entries 832 to 895 of DB_ROM (10_state.md R43: floor(256 * 10^((DB_MIN + k)/200) + 1/2)). -/
def refDbPart13 : List Nat :=
  [14731, 14902, 15074, 15249, 15426, 15604, 15785, 15968, 16153, 16340, 16529, 16720, 16914, 17110, 17308, 17508,
   17711, 17916, 18123, 18333, 18546, 18760, 18978, 19197, 19420, 19644, 19872, 20102, 20335, 20570, 20808, 21049,
   21293, 21540, 21789, 22041, 22297, 22555, 22816, 23080, 23347, 23618, 23891, 24168, 24448, 24731, 25017, 25307,
   25600, 25896, 26196, 26500, 26806, 27117, 27431, 27749, 28070, 28395, 28724, 29056, 29393, 29733, 30077, 30426]

/-- Entries 896 to 959 of DB_ROM (10_state.md R43: floor(256 * 10^((DB_MIN + k)/200) + 1/2)). -/
def refDbPart14 : List Nat :=
  [30778, 31134, 31495, 31860, 32228, 32602, 32979, 33361, 33747, 34138, 34533, 34933, 35338, 35747, 36161, 36580,
   37003, 37432, 37865, 38304, 38747, 39196, 39650, 40109, 40573, 41043, 41518, 41999, 42485, 42977, 43475, 43978,
   44488, 45003, 45524, 46051, 46584, 47124, 47669, 48221, 48780, 49345, 49916, 50494, 51079, 51670, 52268, 52874,
   53486, 54105, 54732, 55366, 56007, 56655, 57311, 57975, 58646, 59325, 60012, 60707, 61410, 62121, 62841, 63568]

/-- Entries 960 to 960 of DB_ROM (10_state.md R43: floor(256 * 10^((DB_MIN + k)/200) + 1/2)). -/
def refDbPart15 : List Nat :=
  [64304]

/-- The reference contents of DB_ROM (10_state.md R43: floor(256 * 10^((DB_MIN + k)/200) + 1/2)). -/
def refDb : List Nat :=
  refDbPart0 ++ refDbPart1 ++ refDbPart2 ++ refDbPart3 ++ refDbPart4 ++ refDbPart5 ++ refDbPart6 ++ refDbPart7 ++ refDbPart8 ++ refDbPart9 ++ refDbPart10 ++ refDbPart11 ++ refDbPart12 ++ refDbPart13 ++ refDbPart14 ++ refDbPart15

/-- The reference contents of PERIOD_ROM (10_state.md R44): rows are the octaves 2, 3 and 4. -/
def refPeriod : List (List Nat) :=
  [[856, 808, 762, 720, 678, 640, 604, 570, 538, 508, 480, 453],
   [428, 404, 381, 360, 339, 320, 302, 285, 269, 254, 240, 226],
   [214, 202, 190, 180, 170, 160, 151, 143, 135, 127, 120, 113]]

/-- The reference configuration (00_scope.md R8). -/
def referenceConfig : Config :=
  { sinRom := refSin
    tanRom := refTan
    dbMin := -480
    dbMax := 480
    dbRom := refDb
    octBase := 2
    periodRom := refPeriod
    kCorr := 26214
    maxAmp := 256
    envMax := 65535
    clockReset := 3546895
    idValue := 0x42454550 }

end Sys2Proof.Machine
end

