-- ==== Sys2Proof/Syntax.lean ====
section
/-! DEFINITION. The commands (30_encoding.md R67), the names of the registers (10_state.md R24) and the
host operations (30_encoding.md R71). -/

namespace Sys2Proof

/-- The seven commands of the opcode map (30_encoding.md R67). A command has no operand field: it takes its
operands from the input registers (R65, R68). -/
inductive Instr where
  | nop
  | resolveNote
  | designFilter
  | buildEnv
  | derive
  | synthesize
  | release
deriving DecidableEq, Repr

/-- The registers of the window, under the names of 10_state.md R24. -/
inductive Reg where
  | id | ctrl | status | cmd
  | clockHz | note | sampleRate | cutoff | env | linGain | gainDb
  | osc1Freq | osc2Freq | durationMs | mix | waves
  | period | freq
  | bufHandle | bufCap | sampleCount | osc1Period | osc2Period | osc1Pinv | osc2Pinv
  | envStep | amp1 | amp2 | pbWaves | coefFrac
  | b0 | b1 | b2 | a0 | a1 | a2
  | fdWc | fdTidx | z1Re | z1Im | z2Re | z2Im | fdSumA
  | envLut (i : Fin 256)
deriving DecidableEq, Repr

/-- The waveform kinds a selector names (10_state.md R35); the block only copies the selector
(43_orchestrator.md R110). -/
inductive Waveform where
  | square
  | sawtooth
  | triangle
  | noise
deriving DecidableEq, Repr

/-- A host operation of a host program (30_encoding.md R71): `wr NAME, v` and `rd NAME -> x`. -/
inductive HostOp where
  | wr (r : Reg) (v : Int)
  | rd (r : Reg)
deriving DecidableEq, Repr

end Sys2Proof
end

