-- ==== Sys2Proof/Machine/State.lean ====
section
/-! DEFINITION. The state of BEEP-CORE and of what surrounds it, as plain data (10_state.md), and the state
right after reset (10_state.md R49). -/

namespace Sys2Proof.Machine

/-- Why the machine stops with a fault. Each is an arrival to which the spec gives no effect. -/
inductive Fault where
  /-- Raised by a host access at an offset outside the window 0x000 to 0x7FF, which does not exist in the
  block's address space (20_memory.md R50). Safe: the model stops (log 12). -/
  | outsideWindow
  /-- Raised by an allocator answer of the current reset epoch while no request is outstanding
  (60_exceptions.md R129: an answer is "in reply to the outstanding request"). Safe: the model stops (log 17). -/
  | unsolicitedAllocAnswer
  /-- Raised by an allocator answer `OK(h)` with h = 0 or h a live handle, which the allocator never gives
  (60_exceptions.md R129). Safe: the model stops (log 16). -/
  | badAllocHandle
  /-- Raised by a GenDone of the current reset epoch while the state is not GEN_WAIT (60_exceptions.md R130).
  Safe: the model stops (log 17). -/
  | unsolicitedGenDone
  /-- Raised by a generation-port read outside GEN_WAIT, or of a register the port does not serve
  (60_exceptions.md R130). Safe: the model stops (log 19). -/
  | generationPortRead
deriving DecidableEq, Repr

/-- Why the machine refuses. -/
inductive Refusal where
  /-- Raised by an arm of `exec` that has no meaning yet. Safe: the model stops. -/
  | notModelled (mnemonic : String)
  /-- Raised by every step and every command of a machine whose configuration fails a check of 10_state.md
  R45 ("A model refuses a configuration that fails any check"). Safe: the model stops (log 7). -/
  | illFormedConfiguration
deriving DecidableEq, Repr

/-- The error codes of STATUS.ERR (60_exceptions.md R120); codes 4 to 15 are never written. -/
inductive ErrCode where
  /-- ERR_NONE, code 0. -/
  | none
  /-- ERR_ILLEGAL, code 1. -/
  | illegal
  /-- ERR_ARG, code 2. -/
  | arg
  /-- ERR_ALLOC_FAIL, code 3. -/
  | allocFail
deriving DecidableEq, Repr

/-- The input registers (10_state.md R29 to R35), each as wide as its defined fields. -/
structure Inputs where
  clockHz    : Word
  note       : BitVec 8
  sampleRate : Word
  cutoff     : Word
  env        : Word
  linGain    : Word
  gainDb     : Half
  osc1Freq   : Word
  osc2Freq   : Word
  durationMs : Word
  mix        : BitVec 8
  waves      : BitVec 4
deriving DecidableEq, Repr

/-- The note outputs PERIOD and FREQ (10_state.md R36). -/
structure NoteRegs where
  period : Half
  freq   : Word
deriving DecidableEq, Repr

/-- BUF_HANDLE and BUF_CAP (10_state.md R37, R48). -/
structure BufferRegs where
  handle : Word
  cap    : Word
deriving DecidableEq, Repr

/-- The registers of the derivation set (43_orchestrator.md R110). -/
structure DerivedRegs where
  sampleCount : Half
  osc1Period  : Word
  osc2Period  : Word
  osc1Pinv    : BitVec 17
  osc2Pinv    : BitVec 17
  envStep     : BitVec 17
  amp1        : Half
  amp2        : Half
  pbWaves     : BitVec 4
deriving DecidableEq, Repr

/-- The registers a filter design writes (41_filter.md R92): the coefficients and the diagnostics. A0 and
COEF_FRAC are constants (10_state.md R38). -/
structure FilterRegs where
  b0     : Half
  b1     : Half
  b2     : Half
  a1     : Half
  a2     : Half
  fdWc   : Half
  fdTidx : Half
  z1Re   : Half
  z1Im   : Half
  z2Re   : Half
  z2Im   : Half
  fdSumA : Word
deriving DecidableEq, Repr

/-- The ENV_LUT RAM (20_memory.md R50): 256 entries of 16 bits, indexed by entry. The list holds the entries
that are not 0, by rising index (log 10). -/
structure Memory where
  cells : List (Nat × Half)
deriving DecidableEq, Repr

/-- The commit set of a SYNTHESIZE (43_orchestrator.md R113): the derivation set, the converted gain, the
envelope entries and the filter design. -/
structure CommitSet where
  derived : DerivedRegs
  gain    : Word
  lut     : List Half
  filter  : FilterRegs
deriving DecidableEq, Repr

/-- The command state machine (10_state.md R46), with what each state holds (R47). -/
inductive Fsm where
  | idle
  | run (op : Instr)
  | allocWait (size : Nat) (c : CommitSet)
  | genWait
deriving DecidableEq, Repr

/-- The allocator's answer to a request (60_exceptions.md R129). -/
inductive AllocAnswer where
  | ok (h : Word)
  | fail
deriving DecidableEq, Repr

/-- One thing that reaches the block from outside (60_exceptions.md R124). The epoch of an agent's message is
the number of resets that had taken effect when the request it belongs to was made (log 15). -/
inductive Event where
  /-- A host read of `width` bits at a window offset (20_memory.md R52, 30_encoding.md R71). -/
  | hostRead (off width : Nat)
  /-- A host write of `width` bits at a window offset (20_memory.md R52, 30_encoding.md R71). -/
  | hostWrite (off width : Nat) (v : Word)
  /-- AllocAnswer (60_exceptions.md R129). -/
  | allocAnswer (epoch : Nat) (ans : AllocAnswer)
  /-- A read through the generation port (60_exceptions.md R130). -/
  | genRead (r : Reg)
  /-- GenDone (60_exceptions.md R130). -/
  | genDone (epoch : Nat)
  /-- Reset of the block, with or without the agents (70_reset_and_hazards.md R135, R136; log 18). -/
  | reset (withAgents : Bool)
deriving DecidableEq, Repr

/-- An event and the schedule's choice of latency: whether a command in RUN also runs in the step that takes
the event, or is still computing after it (70_reset_and_hazards.md R145; log 2). -/
structure Arrival where
  event : Event
  runs  : Bool
deriving DecidableEq, Repr

/-- What a port access of the last step was answered. -/
inductive Reply where
  /-- The last step took no port access. -/
  | none
  /-- The 32 bits a host read returned. -/
  | data (v : Word)
  /-- A host write was accepted by the bus (it may still be ignored, 20_memory.md R57). -/
  | written
  /-- A bus error (20_memory.md R53). -/
  | busError
  /-- The value a generation-port read returned (60_exceptions.md R130). -/
  | genData (v : Word)
deriving DecidableEq, Repr

/-- A message of the block to an external agent (60_exceptions.md R129, R130). -/
inductive PortMessage where
  | allocRequest (size : Nat)
  | allocRelease (h : Word)
  | genStart (h : Word)
deriving DecidableEq, Repr

/-- The state of the machine. -/
structure State where
  /-- The construction parameters (00_scope.md R8, R9): no step changes them (log 6). -/
  cfg     : Config
  /-- CTRL.IE (10_state.md R26). -/
  ctrlIE  : Bool
  /-- STATUS.DONE (10_state.md R27). -/
  done    : Bool
  /-- STATUS.OVR (10_state.md R27). -/
  ovr     : Bool
  /-- STATUS.ERR (10_state.md R27). -/
  err     : ErrCode
  /-- The input registers (10_state.md R29). -/
  inputs  : Inputs
  /-- PERIOD and FREQ (10_state.md R36). -/
  noteOut : NoteRegs
  /-- BUF_HANDLE and BUF_CAP (10_state.md R37). -/
  buffer  : BufferRegs
  /-- The derivation set (43_orchestrator.md R110). -/
  derived : DerivedRegs
  /-- The coefficients and diagnostics (10_state.md R38, R39). -/
  filter  : FilterRegs
  /-- ENV_LUT (10_state.md R40). -/
  envLut  : Memory
  /-- The command state machine and its pending request (10_state.md R46, R47). -/
  fsm     : Fsm
  /-- MODEL's own: the arrivals still to take effect, in order (log 1). -/
  inbox   : List Arrival
  /-- MODEL's own: the answer to the last step's port access (log 11). -/
  reply   : Reply
  /-- MODEL's own: the messages the block has put on its ports, oldest first (log 14). -/
  outbox  : List PortMessage
  /-- MODEL's own: the handles the allocator holds live (60_exceptions.md R129; log 16). -/
  live    : List Word
  /-- MODEL's own: the number of resets that have taken effect (log 15). -/
  epoch   : Nat
  /-- MODEL's own: the number of free values drawn (20_memory.md R58; log 3). -/
  draws   : Nat
deriving DecidableEq, Repr

/-- What an ENV_LUT entry reads as when the list does not hold it: 0, its value at reset (10_state.md R49). -/
def unlistedEntry : Half := 0

/-- Every input register at its reset value (10_state.md R24). -/
def resetInputs (c : Config) : Inputs :=
  { clockHz := c.clockReset, note := 0, sampleRate := 0, cutoff := 0, env := 0, linGain := 0, gainDb := 0
    osc1Freq := 0, osc2Freq := 0, durationMs := 0, mix := 0, waves := 0 }

/-- PERIOD and FREQ at reset (10_state.md R24). -/
def resetNote : NoteRegs := { period := 0, freq := 0 }

/-- No buffer (10_state.md R48, R49). -/
def noBuffer : BufferRegs := { handle := 0, cap := 0 }

/-- The derivation set at reset (10_state.md R24). -/
def resetDerived : DerivedRegs :=
  { sampleCount := 0, osc1Period := 0, osc2Period := 0, osc1Pinv := 0, osc2Pinv := 0, envStep := 0
    amp1 := 0, amp2 := 0, pbWaves := 0 }

/-- The coefficients and diagnostics at reset (10_state.md R24). -/
def resetFilter : FilterRegs :=
  { b0 := 0, b1 := 0, b2 := 0, a1 := 0, a2 := 0, fdWc := 0, fdTidx := 0
    z1Re := 0, z1Im := 0, z2Re := 0, z2Im := 0, fdSumA := 0 }

/-- The machine right after its first reset, under a configuration (10_state.md R49, 70_reset_and_hazards.md
R138); the model's own fields are empty (log 20). -/
def State.resetWith (c : Config) : State :=
  { cfg := c
    ctrlIE := false
    done := false
    ovr := false
    err := .none
    inputs := resetInputs c
    noteOut := resetNote
    buffer := noBuffer
    derived := resetDerived
    filter := resetFilter
    envLut := { cells := [] }
    fsm := .idle
    inbox := []
    reply := .none
    outbox := []
    live := []
    epoch := 0
    draws := 0 }

/-- The machine right after reset, under the reference configuration (10_state.md R49; log 6). -/
def State.reset : State := State.resetWith referenceConfig

end Sys2Proof.Machine
end

