-- ==== Sys2Proof/Machine/Flags.lean ====
section
/-! DEFINITION. The STATUS word and its flags, and the interrupt line (10_state.md R27, 60_exceptions.md
R120, R128). The block has no condition codes. -/

namespace Sys2Proof.Machine

/-- STATUS.BUSY: 1 exactly when the state is not IDLE (10_state.md R46; a view, log 9). -/
def busy (s : State) : Bool :=
  match s.fsm with
  | .idle => false
  | .run _ => true
  | .allocWait _ _ => true
  | .genWait => true

/-- STATUS.BUFV: 1 exactly when BUF_HANDLE != 0 (10_state.md R27; a view, log 9). -/
def bufValid (s : State) : Bool := decide (s.buffer.handle ≠ 0)

/-- The code of an error in STATUS.ERR (60_exceptions.md R120). -/
def errCode : ErrCode → BitVec 4
  | .none => 0
  | .illegal => 1
  | .arg => 2
  | .allocFail => 3

/-- One bit of a register. -/
def bit (b : Bool) : BitVec 1 := if b then 1 else 0

/-- The STATUS word: BUSY bit 0, DONE bit 1, OVR bit 2, ERR bits 7:4, BUFV bit 8, the rest 0
(10_state.md R27). -/
def statusWord (s : State) : Word :=
  (0 : BitVec 23) ++ bit (bufValid s) ++ errCode s.err ++ (0 : BitVec 1) ++ bit s.ovr ++ bit s.done ++
    bit (busy s)

/-- The CTRL word: IE in bit 0 (10_state.md R26). -/
def ctrlWord (s : State) : Word := (0 : BitVec 31) ++ bit s.ctrlIE

/-- The interrupt line, IRQ = CTRL.IE AND STATUS.DONE, at every instant (60_exceptions.md R128). -/
def irq (s : State) : Bool := s.ctrlIE && s.done

/-- The level the block drives on input `n` of the host's interrupt controller: its one line goes to the input
whose number the platform chose (60_exceptions.md R128, routing; log 13). -/
def irqInput (n : Nat) (s : State) : Bool := decide (n = Config.irqNumber) && irq s

/-- A host write to STATUS: bits 1 and 2 clear DONE and OVR; nothing else changes (20_memory.md R57). -/
def writeStatus (v : Word) (s : State) : State :=
  { s with done := s.done && !v.getLsbD 1, ovr := s.ovr && !v.getLsbD 2 }

/-- A host write to CTRL: bit 0 is IE (20_memory.md R57). -/
def writeCtrl (v : Word) (s : State) : State := { s with ctrlIE := v.getLsbD 0 }

/-- A host write is lost because STATUS.BUSY = 1: OVR is set (10_state.md R29). -/
def setOverrun (s : State) : State := { s with ovr := true }

end Sys2Proof.Machine
end

