-- ==== Sys2Proof/Machine/Operands.lean ====
section
/-! DEFINITION. Operand assembly (30_encoding.md R69): how the commands read the fields of the input
registers. -/

namespace Sys2Proof.Machine

/-- `semi = reg[NOTE][3:0]`, zero-extended. -/
def semiOf (x : Inputs) : Nat := x.note.toNat % 16

/-- `oct = reg[NOTE][7:4]`, zero-extended. -/
def octOf (x : Inputs) : Nat := x.note.toNat / 16

/-- `atk = reg[ENV][7:0]`, zero-extended. -/
def atkOf (x : Inputs) : Nat := x.env.toNat % 256

/-- `dec = reg[ENV][15:8]`, zero-extended. -/
def decOf (x : Inputs) : Nat := x.env.toNat / 256 % 256

/-- `sus = reg[ENV][23:16]`, zero-extended. -/
def susOf (x : Inputs) : Nat := x.env.toNat / 65536 % 256

/-- `rel = reg[ENV][31:24]`, zero-extended. -/
def relOf (x : Inputs) : Nat := x.env.toNat / 16777216

/-- `gain_db = sext_16(reg[GAIN_DB][15:0])`. -/
def gainDbOf (x : Inputs) : Int := x.gainDb.toInt

/-- `mix = reg[MIX][7:0]`. -/
def mixOf (x : Inputs) : Nat := x.mix.toNat

/-- The waveform of a selector code: 0 square, 1 sawtooth, 2 triangle, 3 noise; all four codes are legal
(10_state.md R35). -/
def waveformOf (code : BitVec 2) : Waveform :=
  match code.toNat with
  | 0 => .square
  | 1 => .sawtooth
  | 2 => .triangle
  | _ => .noise

/-- `w1 = reg[WAVES][1:0]`, and the same field of PB_WAVES. -/
def wave1Of (w : BitVec 4) : BitVec 2 := w.extractLsb' 0 2

/-- `w2 = reg[WAVES][3:2]`, and the same field of PB_WAVES. -/
def wave2Of (w : BitVec 4) : BitVec 2 := w.extractLsb' 2 2

/-- CLOCK_HZ, the whole register as a u32. -/
def clockOf (x : Inputs) : Nat := x.clockHz.toNat

/-- SAMPLE_RATE, the whole register as a u32. -/
def sampleRateOf (x : Inputs) : Nat := x.sampleRate.toNat

/-- CUTOFF, the whole register as a u32. -/
def cutoffOf (x : Inputs) : Nat := x.cutoff.toNat

/-- LIN_GAIN, the whole register as a u32. -/
def linGainOf (x : Inputs) : Nat := x.linGain.toNat

/-- OSC1_FREQ, the whole register as a u32. -/
def osc1FreqOf (x : Inputs) : Nat := x.osc1Freq.toNat

/-- OSC2_FREQ, the whole register as a u32. -/
def osc2FreqOf (x : Inputs) : Nat := x.osc2Freq.toNat

/-- DURATION_MS, the whole register as a u32. -/
def durationOf (x : Inputs) : Nat := x.durationMs.toNat

end Sys2Proof.Machine
end

