-- ==== Sys2Proof/Machine/Roms.lean ====
section
/-! DEFINITION. Reading the four ROMs by entry (20_memory.md R50, 00_scope.md R12). The defaults stand for
entries that a well-formed configuration has (10_state.md R45), and are never reached under one. -/

namespace Sys2Proof.Machine

/-- `SIN_ROM[k]` (10_state.md R41). -/
def sinEntry (c : Config) (k : Nat) : Int := c.sinRom.getD k 0

/-- cos(2 pi k / SIN_SIZE), read a quarter turn on: `SIN_ROM[(k + SIN_SIZE/4) mod SIN_SIZE]`
(10_state.md R41). -/
def cosEntry (c : Config) (k : Nat) : Int := sinEntry c ((k + c.sinSize / 4) % c.sinSize)

/-- `TAN_ROM[k]` (10_state.md R42). -/
def tanEntry (c : Config) (k : Nat) : Nat := c.tanRom.getD k 0

/-- `DB_ROM[k]` (10_state.md R43). -/
def dbEntry (c : Config) (k : Nat) : Nat := c.dbRom.getD k 0

/-- `PERIOD_ROM[r][k]` (10_state.md R44). -/
def periodEntry (c : Config) (r k : Nat) : Nat := (c.periodRom.getD r []).getD k 1

/-- The ROM index of candidate pole k, `fdiv((2k + 1) * SIN_SIZE, 4N)` with N = 2 (41_filter.md R85). -/
def poleAngle (c : Config) (k : Nat) : Nat := (2 * k + 1) * c.sinSize / 8

/-- The indices k in 0..2N-1 of the candidate poles with a negative cosine entry, ascending
(41_filter.md R85). -/
def retainedPoles (c : Config) : List Nat :=
  [0, 1, 2, 3].filter fun k => decide (cosEntry c (poleAngle c k) < 0)

end Sys2Proof.Machine
end

