-- ==== Sys2Proof/WellFormed.lean ====
section
/-! DEFINITION. What is well-formed: a configuration (10_state.md R45 and the ROM shapes of R41 to R44), a
command, and a bus access (20_memory.md R52). -/

namespace Sys2Proof

/-- R45 check 1: SIN_SIZE is a positive multiple of 8. -/
def Config.checkSinSize (c : Config) : Bool :=
  decide (0 < c.sinSize) && decide (c.sinSize % 8 = 0)

/-- R45 check 2: exactly two of the four candidate poles have a negative cosine entry. -/
def Config.checkPoles (c : Config) : Bool :=
  decide ((Machine.retainedPoles c).length = 2)

/-- R45 check 3: every TAN_ROM entry is in 0..32767, and TAN_SIZE >= 1. -/
def Config.checkTan (c : Config) : Bool :=
  decide (1 ≤ c.tanSize) && c.tanRom.all fun v => decide (v ≤ 32767)

/-- R45 check 4 and the shape of R44: 3 rows of 12 entries, each in 1..65535. -/
def Config.checkPeriod (c : Config) : Bool :=
  decide (c.periodRom.length = 3) &&
    c.periodRom.all fun row =>
      decide (row.length = 12) && row.all fun v => decide (1 ≤ v) && decide (v ≤ 65535)

/-- R45 check 5 and the length of R43: DB_MIN <= DB_MAX, both in -32768..32767, DB_MAX - DB_MIN + 1 entries,
each a u32. -/
def Config.checkDb (c : Config) : Bool :=
  decide (c.dbMin ≤ c.dbMax) && decide (-32768 ≤ c.dbMin) && decide (c.dbMax ≤ 32767) &&
    decide ((c.dbRom.length : Int) = c.dbMax - c.dbMin + 1) &&
    c.dbRom.all fun v => decide (v ≤ 4294967295)

/-- R45 check 6: K_CORR is in 0..65535. -/
def Config.checkKCorr (c : Config) : Bool := decide (c.kCorr ≤ 65535)

/-- R45 check 7: MAX_AMP is in 0..65535. -/
def Config.checkMaxAmp (c : Config) : Bool := decide (c.maxAmp ≤ 65535)

/-- R45 check 8: ENV_MAX is in 0..65535. -/
def Config.checkEnvMax (c : Config) : Bool := decide (c.envMax ≤ 65535)

/-- R41: every SIN_ROM entry is an s16. -/
def Config.checkSinEntries (c : Config) : Bool :=
  c.sinRom.all fun v => decide (-32768 ≤ v) && decide (v ≤ 32767)

/-- A well-formed configuration (10_state.md R45, with the entry types and ROM shapes of R41 to R44; log 7). -/
def Config.wellFormed (c : Config) : Bool :=
  c.checkSinSize && c.checkPoles && c.checkTan && c.checkPeriod && c.checkDb && c.checkKCorr &&
    c.checkMaxAmp && c.checkEnvMax && c.checkSinEntries

/-- A command has no operand field (30_encoding.md R65), so every command is well-formed: nothing about it
can be out of range. -/
def Instr.wellFormed : Instr → Bool
  | .nop => true
  | .resolveNote => true
  | .designFilter => true
  | .buildEnv => true
  | .derive => true
  | .synthesize => true
  | .release => true

/-- An access that the window serves: 32 bits wide, at an offset that is a multiple of 4
(20_memory.md R52). -/
def accessWellFormed (off width : Nat) : Bool := decide (width = 32) && decide (off % 4 = 0)

end Sys2Proof
end

