-- ==== Sys2Proof/Machine/Ops.lean ====
section
/-! DEFINITION. The named operations over the ENV_LUT RAM and the state: entry reads and writes, accepting
and completing a command, errors, port messages, reset. -/

namespace Sys2Proof.Machine

/-! ### The ENV_LUT RAM (20_memory.md R50) -/

/-- The entry the list holds for index `i`, or what an unlisted entry reads as. -/
def lookupCell (i : Nat) : List (Nat × Half) → Half
  | [] => unlistedEntry
  | (a, w) :: rest => if a = i then w else lookupCell i rest

/-- Put entry `i` in its place by rising index. -/
def insertCell (i : Nat) (v : Half) : List (Nat × Half) → List (Nat × Half)
  | [] => [(i, v)]
  | (a, w) :: rest =>
    if i < a then (i, v) :: (a, w) :: rest
    else if i = a then (i, v) :: rest
    else (a, w) :: insertCell i v rest

/-- Take entry `i` out of the list. -/
def removeCell (i : Nat) : List (Nat × Half) → List (Nat × Half)
  | [] => []
  | (a, w) :: rest => if a = i then rest else (a, w) :: removeCell i rest

/-- Indices rise strictly from `lo` on and stay below 256, and no entry is what an unlisted one reads as. -/
def cellsWf : Nat → List (Nat × Half) → Bool
  | _, [] => true
  | lo, (a, w) :: rest =>
    decide (lo ≤ a) && decide (a < 256) && decide (w ≠ unlistedEntry) && cellsWf (a + 1) rest

/-- The one canonical form of the RAM's contents (log 10). -/
def Memory.wf (m : Memory) : Bool := cellsWf 0 m.cells

/-- `ENV_LUT[i]` (00_scope.md R12). -/
def Memory.read (m : Memory) (i : Nat) : Half := lookupCell i m.cells

/-- `ENV_LUT[i] <- v`, for an entry i in 0..255 (10_state.md R40); there is no other entry. -/
def Memory.write (m : Memory) (i : Nat) (v : Half) : Memory :=
  if i < 256 then
    { cells := if v = unlistedEntry then removeCell i m.cells else insertCell i v m.cells }
  else m

/-- Write a run of entries from index `i` on: `for k in 0.. : ENV_LUT[i + k] <- t[k]`
(42_envelope.md R100). -/
def Memory.storeFrom (m : Memory) (i : Nat) : List Half → Memory
  | [] => m
  | v :: t => (m.storeFrom (i + 1) t).write i v

/-! ### Configuration -/

/-- A machine whose configuration fails a check of 10_state.md R45 is refused; else it goes on. -/
def guarded (s : State) (k : Host.Outcome State Fault Refusal) : Host.Outcome State Fault Refusal :=
  if s.cfg.wellFormed then k else .refused .illFormedConfiguration

/-! ### Accepting and ending a command -/

/-- Acceptance of a legal command: DONE and ERR are cleared, BUSY becomes 1, the state is RUN(op)
(30_encoding.md R66). -/
def accept (i : Instr) (s : State) : State := { s with done := false, err := .none, fsm := .run i }

/-- `Complete(e)`: ERR, DONE, BUSY and the state change at one instant; OVR does not
(60_exceptions.md R121). -/
def complete (e : ErrCode) (s : State) : State := { s with err := e, done := true, fsm := .idle }

/-- `raise E`: the command completes with E and nothing committed (60_exceptions.md R122). This is the
block's only exception: it has no traps (R126). -/
def raiseError (e : ErrCode) (s : State) : State := complete e s

/-- An illegal word: acceptance clears DONE and ERR and the word completes at once with ERR_ILLEGAL
(60_exceptions.md R123). -/
def rejectIllegal (s : State) : State := complete .illegal { s with done := false, err := .none }

/-! ### Port messages -/

/-- Put a message on a port (60_exceptions.md R129, R130). -/
def issue (m : PortMessage) (s : State) : State := { s with outbox := s.outbox ++ [m] }

/-- `AllocRelease(h)`: the message, and the allocator no longer holds h live (60_exceptions.md R129). -/
def releaseHandle (h : Word) (s : State) : State :=
  { issue (.allocRelease h) s with live := s.live.erase h }

/-- `if h != 0: issue AllocRelease(h)` for the handle in BUF_HANDLE (43_orchestrator.md R114, R118). -/
def releaseHeld (s : State) : State :=
  if s.buffer.handle ≠ 0 then releaseHandle s.buffer.handle s else s

/-- The allocator grants h: it is live from then on (60_exceptions.md R129). -/
def grantHandle (h : Word) (s : State) : State := { s with live := h :: s.live }

/-! ### Commits -/

/-- Write PERIOD and FREQ (40_note.md R76). -/
def commitNote (n : NoteRegs) (s : State) : State := { s with noteOut := n }

/-- Write the coefficients and the diagnostics (41_filter.md R92). -/
def commitFilter (f : FilterRegs) (s : State) : State := { s with filter := f }

/-- Write the envelope entries from entry 0 on (42_envelope.md R100). -/
def commitEnv (t : List Half) (s : State) : State := { s with envLut := s.envLut.storeFrom 0 t }

/-- Write the derivation set (43_orchestrator.md R111). -/
def commitDerived (d : DerivedRegs) (s : State) : State := { s with derived := d }

/-- Write BUF_HANDLE and BUF_CAP (43_orchestrator.md R115, R118). -/
def commitBuffer (b : BufferRegs) (s : State) : State := { s with buffer := b }

/-- Write LIN_GAIN (43_orchestrator.md R115). -/
def commitGain (g : Word) (s : State) : State := { s with inputs := { s.inputs with linGain := g } }

/-- Enter a state of the command state machine (10_state.md R46). -/
def enter (f : Fsm) (s : State) : State := { s with fsm := f }

/-- Answer the port access of this step. -/
def setReply (r : Reply) (s : State) : State := { s with reply := r }

/-! ### Reset -/

/-- Reset takes effect: every register at its reset value, the state IDLE with no pending request
(70_reset_and_hazards.md R135). The allocator is not called, so the handles it holds live stay so, unless the
platform resets the agents with the block (R136; log 18). The arrivals still to come and the messages
already sent are outside the block. -/
def resetBlock (withAgents : Bool) (s : State) : State :=
  { State.resetWith s.cfg with
    inbox := s.inbox
    outbox := s.outbox
    live := if withAgents then [] else s.live
    epoch := s.epoch + 1
    draws := s.draws }

end Sys2Proof.Machine
end

