-- ==== Sys2Proof/Machine/Envelope.lean ====
section
/-! DEFINITION. The amplitude envelope LUT builder: BUILD_ENV (42_envelope.md). -/

namespace Sys2Proof.Machine

/-- An envelope, the four bytes of ENV (10_state.md R33). -/
structure Envelope where
  atk : Nat
  dec : Nat
  sus : Nat
  rel : Nat
deriving DecidableEq, Repr

/-- The envelope in ENV (30_encoding.md R69). -/
def envelopeOf (x : Inputs) : Envelope :=
  { atk := atkOf x, dec := decOf x, sus := susOf x, rel := relOf x }

/-- `ae = atk` (42_envelope.md R96). -/
def attackEnd (e : Envelope) : Nat := e.atk

/-- `de = atk + dec`, not reduced mod 256 (42_envelope.md R96). -/
def decayEnd (e : Envelope) : Nat := e.atk + e.dec

/-- `se = 255 - rel` (42_envelope.md R96). -/
def sustainEnd (e : Envelope) : Nat := 255 - e.rel

/-- `env_raw(i)`: the first case that holds, in the source's order (42_envelope.md R97, R98). -/
def envRaw (e : Envelope) (i : Nat) : Nat :=
  if i < attackEnd e then fdiv (i * 255) e.atk
  else if i < decayEnd e then 255 - fdiv ((255 - e.sus) * (i - attackEnd e)) e.dec
  else if i < sustainEnd e then e.sus
  else if 0 < e.rel then fdiv (e.sus * (255 - i)) e.rel
  else 0

/-- `env_entry(i, G)`: gain, shift and clamp (42_envelope.md R99). -/
def envEntry (c : Config) (e : Envelope) (gain i : Nat) : Nat :=
  satU (fdiv (envRaw e i * gain) (2 ^ 8)) c.envMax

/-- The 256 entries of an envelope under a gain (42_envelope.md R100). -/
def envTable (c : Config) (e : Envelope) (gain : Nat) : List Half :=
  (List.range 256).map fun i => BitVec.ofNat 16 (envEntry c e gain i)

/-- BUILD_ENV (42_envelope.md R100). -/
def execBuildEnv (s : State) : Host.Outcome State Fault Refusal :=
  guarded s <|
    .next (complete .none (commitEnv (envTable s.cfg (envelopeOf s.inputs) (linGainOf s.inputs)) s))

end Sys2Proof.Machine
end

