-- ==== Sys2Proof/Machine/Filter.lean ====
section
/-! DEFINITION. The Butterworth lowpass coefficient synthesizer: DESIGN_FILTER (41_filter.md). -/

namespace Sys2Proof.Machine

/-- A complex fixed-point value (00_scope.md R15). -/
structure Cpx where
  re : Int
  im : Int
deriving DecidableEq, Repr

/-- `cadd`: each part exact, then saturated (41_filter.md R78). -/
def cadd (x y : Cpx) : Cpx := { re := sat16 (x.re + y.re), im := sat16 (x.im + y.im) }

/-- `cmul_exact` (41_filter.md R79). -/
def cmulExact (x y : Cpx) : Cpx :=
  { re := x.re * y.re - x.im * y.im, im := x.re * y.im + x.im * y.re }

/-- `cshift` (41_filter.md R80). -/
def cshift (x : Cpx) (n : Nat) : Cpx := { re := asr x.re n, im := asr x.im n }

/-- `cmulneg`: the exact product is negated, then shifted by 15 and saturated (41_filter.md R81). -/
def cmulneg (x y : Cpx) : Cpx :=
  { re := sat16 (asr (-(cmulExact x y).re) 15), im := sat16 (asr (-(cmulExact x y).im) 15) }

/-- ONE = 2^15, 1.0 in Q15. -/
def oneQ15 : Int := 32768

/-- The numerator row B = [1, 2, 1] (41_filter.md R87). -/
def numerator : List Nat := [1, 2, 1]

/-- SHIFT = ceil_log2(max(B)) (41_filter.md R88). -/
def accShift : Nat := ceilLog2 (numerator.foldl max 0)

/-- Step 1: fmax = fdiv(sr, 4), and a cutoff of 0 or above fmax becomes fmax (41_filter.md R83). -/
def clampCutoff (sr cutoff : Nat) : Nat :=
  if cutoff = 0 ∨ fdiv sr 4 < cutoff then fdiv sr 4 else cutoff

/-- Step 2: the tangent index (41_filter.md R84), for sr >= 1. -/
def tangentIndex (c : Config) (sr fc : Nat) : Nat :=
  min (fdiv (4 * c.tanSize * fc) sr) (c.tanSize - 1)

/-- Step 3: candidate pole k scaled by the prewarped cutoff (41_filter.md R85). -/
def scaledPole (c : Config) (wc : Nat) (k : Nat) : Cpx :=
  { re := asr (wc * cosEntry c (poleAngle c k)) 15, im := asr (wc * sinEntry c (poleAngle c k)) 15 }

/-- Step 3: the retained s-plane poles, ascending k (41_filter.md R85). -/
def splanePoles (c : Config) (wc : Nat) : List Cpx := (retainedPoles c).map (scaledPole c wc)

/-- The real part nr of (1+s)(1-conj s), Q30 (41_filter.md R86). -/
def bilinearNr (s : Cpx) : Int := oneQ15 * oneQ15 - (s.re * s.re + s.im * s.im)

/-- The imaginary part ni, Q30 (41_filter.md R86). -/
def bilinearNi (s : Cpx) : Int := 2 * s.im * oneQ15

/-- d = |1-s|^2, Q30 (41_filter.md R86). -/
def bilinearD (s : Cpx) : Int := (oneQ15 - s.re) * (oneQ15 - s.re) + s.im * s.im

/-- Step 4: the bilinear transform of an s-plane pole (41_filter.md R86). -/
def bilinear (s : Cpx) : Cpx :=
  { re := sat16 (tdiv (bilinearNr s * 2 ^ 15) (bilinearD s))
    im := sat16 (tdiv (bilinearNi s * 2 ^ 15) (bilinearD s)) }

/-- The accumulator of the expansion: coefficients in ascending powers of z^-1 (41_filter.md R89). -/
structure Acc where
  c0 : Cpx
  c1 : Cpx
  c2 : Cpx
deriving DecidableEq, Repr

/-- The accumulator starts at 1.0 in Q14 (41_filter.md R89). -/
def accStart : Acc := { c0 := cshift ⟨oneQ15, 0⟩ accShift, c1 := ⟨0, 0⟩, c2 := ⟨0, 0⟩ }

/-- One factor (1 - z z^-1), in place from k = 2 down to 1, so that each coefficient is updated from the old
value of the one below (41_filter.md R89). -/
def expandBy (acc : Acc) (z : Cpx) : Acc :=
  { c0 := acc.c0
    c1 := cadd acc.c1 (cmulneg acc.c0 z)
    c2 := cadd acc.c2 (cmulneg acc.c1 z) }

/-- Step 6: the expansion over both z-plane poles (41_filter.md R89). -/
def expand (z1 z2 : Cpx) : Acc := expandBy (expandBy accStart z1) z2

/-- Step 7: |sum_a / sum_b| with 16 extra fraction bits (41_filter.md R91). -/
def normScale (sumA : Int) : Nat := fdiv (sumA.natAbs * 2 ^ 16) (numerator.foldl (· + ·) 0)

/-- Step 7: the scale after the correction factor (41_filter.md R91). -/
def normCorr (c : Config) (sumA : Int) : Int := asr ((normScale sumA : Int) * c.kCorr) 16

/-- Step 7: the numerator coefficient of a row entry (41_filter.md R91). -/
def normCoef (c : Config) (sumA : Int) (b : Nat) : Int := sat16 (asr ((b : Int) * normCorr c sumA) 16)

/-- Every value of one filter design, exact (41_filter.md R83 to R91). -/
structure Design where
  wc   : Nat
  tidx : Nat
  z1   : Cpx
  z2   : Cpx
  a0   : Int
  a1   : Int
  a2   : Int
  sumA : Int
  b0   : Int
  b1   : Int
  b2   : Int
deriving DecidableEq, Repr

/-- The design from its z-plane poles on: expansion and normalization (41_filter.md R89 to R91). -/
def designFromPoles (c : Config) (tidx wc : Nat) (z1 z2 : Cpx) : Design :=
  let acc := expand z1 z2
  let sumA := acc.c0.re + acc.c1.re + acc.c2.re
  { wc := wc, tidx := tidx, z1 := z1, z2 := z2
    a0 := acc.c0.re, a1 := acc.c1.re, a2 := acc.c2.re, sumA := sumA
    b0 := normCoef c sumA (numerator.getD 0 0)
    b1 := normCoef c sumA (numerator.getD 1 0)
    b2 := normCoef c sumA (numerator.getD 2 0) }

/-- The design of a tangent index: prewarp, poles, bilinear transform, expansion, normalization. It depends on
the index alone (41_filter.md R84 to R91, R93). -/
def designAt (c : Config) (tidx : Nat) : Design :=
  let wc := tanEntry c tidx
  let poles := splanePoles c wc
  designFromPoles c tidx wc (bilinear (poles.getD 0 ⟨0, 0⟩)) (bilinear (poles.getD 1 ⟨0, 0⟩))

/-- `FilterDesign(sr, cutoff)`, for sr >= 1 (41_filter.md R83 to R91). -/
def filterDesign (c : Config) (sr cutoff : Nat) : Design :=
  designAt c (tangentIndex c sr (clampCutoff sr cutoff))

/-- FD_TIDX as its 16-bit field: the index passes through `satU` with the field's maximum before it is stored
(00_scope.md R19; the bound 65535 is DEDUCED, log 5). -/
def tidxField (tidx : Nat) : Half := BitVec.ofNat 16 (satU tidx 65535)

/-- What a design writes (41_filter.md R92). -/
def designRegs (d : Design) : FilterRegs :=
  { b0 := s16 d.b0, b1 := s16 d.b1, b2 := s16 d.b2
    a1 := s16 d.a1, a2 := s16 d.a2
    fdWc := BitVec.ofNat 16 d.wc
    fdTidx := tidxField d.tidx
    z1Re := s16 d.z1.re, z1Im := s16 d.z1.im, z2Re := s16 d.z2.re, z2Im := s16 d.z2.im
    fdSumA := wrap32 d.sumA }

/-- The registers of the design of SAMPLE_RATE and CUTOFF (41_filter.md R93). -/
def filterRegsOf (c : Config) (x : Inputs) : FilterRegs :=
  designRegs (filterDesign c (sampleRateOf x) (cutoffOf x))

/-- DESIGN_FILTER (41_filter.md R93): ERR_ARG when SAMPLE_RATE = 0 (R82). -/
def execDesignFilter (s : State) : Host.Outcome State Fault Refusal :=
  guarded s <|
    if s.inputs.sampleRate = 0 then .next (raiseError .arg s)
    else .next (complete .none (commitFilter (filterRegsOf s.cfg s.inputs) s))

end Sys2Proof.Machine
end

