-- ==== Sys2Proof/Machine/Note.lean ====
section
/-! DEFINITION. The note-to-period quantizer: RESOLVE_NOTE (40_note.md). -/

namespace Sys2Proof.Machine

/-- `clamp_note`, the semitone (40_note.md R73). -/
def clampSemi (semi : Nat) : Nat := min semi 11

/-- `clamp_note`, the octave (40_note.md R73). -/
def clampOct (c : Config) (oct : Nat) : Nat := clampNat oct c.octBase (c.octBase + 2)

/-- `period_from_note` of a clamped note (40_note.md R74). -/
def periodFromNote (c : Config) (s o : Nat) : Nat := periodEntry c (o - c.octBase) s

/-- `freq_from_period` (40_note.md R75). -/
def freqFromPeriod (clock p : Nat) : Nat := roundDiv clock p

/-- The hardware period of the note in NOTE (40_note.md R76). -/
def notePeriod (c : Config) (x : Inputs) : Nat :=
  periodFromNote c (clampSemi (semiOf x)) (clampOct c (octOf x))

/-- The frequency of the note in NOTE under CLOCK_HZ (40_note.md R76). -/
def noteFreq (c : Config) (x : Inputs) : Nat := freqFromPeriod (clockOf x) (notePeriod c x)

/-- What RESOLVE_NOTE writes (40_note.md R76). -/
def resolveNote (c : Config) (x : Inputs) : NoteRegs :=
  { period := BitVec.ofNat 16 (notePeriod c x)
    freq := BitVec.ofNat 32 (noteFreq c x) }

/-- RESOLVE_NOTE (40_note.md R76). -/
def execResolveNote (s : State) : Host.Outcome State Fault Refusal :=
  guarded s (.next (complete .none (commitNote (resolveNote s.cfg s.inputs) s)))

end Sys2Proof.Machine
end

