-- ==== Sys2Proof/Machine/Orchestrator.lean ====
section
/-! DEFINITION. The synthesis orchestrator: DERIVE, NOP, SYNTHESIZE and RELEASE (43_orchestrator.md). -/

namespace Sys2Proof.Machine

/-- `sample_count(sr, ms)`: clamped to 256..32767, then made even (43_orchestrator.md R102). -/
def sampleCount (sr ms : Nat) : Nat := clearBit0 (clampNat (roundDiv (sr * ms) 1000) 256 32767)

/-- `osc_period(sr, f)` (43_orchestrator.md R103). -/
def oscPeriod (sr f : Nat) : Nat := max (roundDiv sr (max f 1)) 1

/-- `period_inverse(p)` (43_orchestrator.md R104). -/
def periodInverse (p : Nat) : Nat := roundDiv (2 ^ 16) p

/-- `env_step(sc)` (43_orchestrator.md R105). -/
def envStep (sc : Nat) : Nat := fdiv (256 * 2 ^ 16) sc

/-- AMP1 of `mix_amps(mix)` (43_orchestrator.md R106). -/
def mixAmp1 (c : Config) (mix : Nat) : Nat := fdiv (c.maxAmp * (100 - min mix 100)) 100

/-- AMP2 of `mix_amps(mix)`, the complement (43_orchestrator.md R106). -/
def mixAmp2 (c : Config) (mix : Nat) : Nat := c.maxAmp - mixAmp1 c mix

/-- `lin_gain(gdb)` (43_orchestrator.md R107). -/
def linGain (c : Config) (gdb : Int) : Nat :=
  dbEntry c (clampInt gdb c.dbMin c.dbMax - c.dbMin).toNat

/-- `alloc_size(sc)` (43_orchestrator.md R108). -/
def allocSize (sc : Nat) : Nat := fdiv (sc + 4096 - 1) 4096 * 4096

/-- The sample count of the inputs (43_orchestrator.md R110). -/
def sampleCountOf (x : Inputs) : Nat := sampleCount (sampleRateOf x) (durationOf x)

/-- `Derive()` (43_orchestrator.md R110). -/
def deriveRegs (c : Config) (x : Inputs) : DerivedRegs :=
  let sc := sampleCountOf x
  let p1 := oscPeriod (sampleRateOf x) (osc1FreqOf x)
  let p2 := oscPeriod (sampleRateOf x) (osc2FreqOf x)
  { sampleCount := BitVec.ofNat 16 sc
    osc1Period := BitVec.ofNat 32 p1
    osc2Period := BitVec.ofNat 32 p2
    osc1Pinv := BitVec.ofNat 17 (periodInverse p1)
    osc2Pinv := BitVec.ofNat 17 (periodInverse p2)
    envStep := BitVec.ofNat 17 (envStep sc)
    amp1 := BitVec.ofNat 16 (mixAmp1 c (mixOf x))
    amp2 := BitVec.ofNat 16 (mixAmp2 c (mixOf x))
    pbWaves := x.waves }

/-- `needs_alloc(sc)`: the class differs from BUF_CAP (43_orchestrator.md R108). -/
def needsAlloc (sc : Nat) (b : BufferRegs) : Bool := decide (allocSize sc ≠ b.cap.toNat)

/-- `SynthCompute()` (43_orchestrator.md R113). -/
def synthCompute (c : Config) (x : Inputs) : CommitSet :=
  let gain := linGain c (gainDbOf x)
  { derived := deriveRegs c x
    gain := BitVec.ofNat 32 gain
    lut := envTable c (envelopeOf x) gain
    filter := filterRegsOf c x }

/-- `SynthCommit(C, h, cap)`: the commit point, GenStart(h) and the wait for the generation agent
(43_orchestrator.md R115). STATUS.BUFV shows the new handle from here on (95_test_vectors.md, program P5).
The model's choice (log 23): so does LIN_GAIN the new gain, as R115 has it, not only at completion
(20_memory.md R61). -/
def synthCommit (k : CommitSet) (b : BufferRegs) (s : State) : State :=
  enter .genWait <| issue (.genStart b.handle) <| commitBuffer b <| commitFilter k.filter <|
    commitEnv k.lut <| commitGain k.gain <| commitDerived k.derived s

/-- Issue AllocRequest(size) and wait for its answer (43_orchestrator.md R114). -/
def requestBuffer (size : Nat) (k : CommitSet) (s : State) : State :=
  enter (.allocWait size k) (issue (.allocRequest size) s)

/-- SYNTHESIZE, first phase, in RUN (43_orchestrator.md R114). -/
def synthesize (s : State) : State :=
  if s.inputs.sampleRate = 0 then raiseError .arg s
  else if needsAlloc (sampleCountOf s.inputs) s.buffer then
    requestBuffer (allocSize (sampleCountOf s.inputs)) (synthCompute s.cfg s.inputs) s
  else synthCommit (synthCompute s.cfg s.inputs) s.buffer s

/-- The allocator answers OK(h) to a request for `size` bytes: the old buffer is released, the commit set is
committed with the new one (43_orchestrator.md R114). -/
def synthGranted (size : Nat) (k : CommitSet) (h : Word) (s : State) : State :=
  synthCommit k { handle := h, cap := BitVec.ofNat 32 size } (releaseHeld (grantHandle h s))

/-- NOP (43_orchestrator.md R112). -/
def execNop (s : State) : Host.Outcome State Fault Refusal := guarded s (.next (complete .none s))

/-- DERIVE (43_orchestrator.md R111). -/
def execDerive (s : State) : Host.Outcome State Fault Refusal :=
  guarded s (.next (complete .none (commitDerived (deriveRegs s.cfg s.inputs) s)))

/-- SYNTHESIZE (43_orchestrator.md R116). -/
def execSynthesize (s : State) : Host.Outcome State Fault Refusal := guarded s (.next (synthesize s))

/-- RELEASE (43_orchestrator.md R118). -/
def execRelease (s : State) : Host.Outcome State Fault Refusal :=
  guarded s (.next (complete .none (commitBuffer noBuffer (releaseHeld s))))

end Sys2Proof.Machine
end

