-- ==== Sys2Proof/Machine/Dispatch.lean ====
section
/-! DEFINITION. The meaning of every command (30_encoding.md R67): one arm per constructor. -/

namespace Sys2Proof.Machine

def exec (i : Instr) (s : State) : Host.Outcome State Fault Refusal :=
  match i with
  | .nop => Sys2Proof.Machine.execNop s
  | .resolveNote => Sys2Proof.Machine.execResolveNote s
  | .designFilter => Sys2Proof.Machine.execDesignFilter s
  | .buildEnv => Sys2Proof.Machine.execBuildEnv s
  | .derive => Sys2Proof.Machine.execDerive s
  | .synthesize => Sys2Proof.Machine.execSynthesize s
  | .release => Sys2Proof.Machine.execRelease s

end Sys2Proof.Machine
end

