-- ==== Sys2Proof/Decode.lean ====
section
/-! DEFINITION. Decoding and encoding the 32-bit command words (30_encoding.md R65 to R67). -/

namespace Sys2Proof

/-- Why a word is no command (30_encoding.md R70). -/
inductive DecodeError where
  /-- A bit of RSVD, bits 31:4, is not 0. -/
  | reservedBits
  /-- OP, bits 3:0, is 0x7 to 0xF. -/
  | reservedOpcode
deriving DecidableEq, Repr

/-- The field OP, bits 3:0 (30_encoding.md R65). -/
def opField (w : Word) : Nat := w.toNat % 16

/-- The field RSVD, bits 31:4 (30_encoding.md R65). -/
def rsvdField (w : Word) : Nat := w.toNat / 16

/-- The command of an opcode (30_encoding.md R67); 0x7 to 0xF are reserved. -/
def instrOfOp : Nat → Option Instr
  | 0 => some .nop
  | 1 => some .resolveNote
  | 2 => some .designFilter
  | 3 => some .buildEnv
  | 4 => some .derive
  | 5 => some .synthesize
  | 6 => some .release
  | _ => none

/-- Decoding a command word, by the word alone (30_encoding.md R66, R70). -/
def decode (w : Word) : Except DecodeError Instr :=
  if rsvdField w ≠ 0 then .error .reservedBits
  else
    match instrOfOp (opField w) with
    | some i => .ok i
    | none => .error .reservedOpcode

/-- The opcode of a command (30_encoding.md R67). -/
def opOf : Instr → Nat
  | .nop => 0
  | .resolveNote => 1
  | .designFilter => 2
  | .buildEnv => 3
  | .derive => 4
  | .synthesize => 5
  | .release => 6

/-- The word of a command: RSVD = 0 above OP (30_encoding.md R65, R67). -/
def encode (i : Instr) : Word := BitVec.ofNat 32 (opOf i)

/-- The command that `decode` reads from an instruction of `nbits` bits `w`. The block has one word format of
32 bits, so the word is its own layout. -/
def decodeTableWord (nbits w : Nat) : Option Instr :=
  match decode (BitVec.ofNat 32 (w % 2 ^ nbits)) with
  | .ok i => some i
  | .error _ => none

end Sys2Proof
end

