-- ==== Sys2Proof/Machine/Window.lean ====
section
/-! DEFINITION. The register window (20_memory.md): the address map, RegRead and RegWrite, and the offer of a
command word to CMD (30_encoding.md R66). -/

namespace Sys2Proof.Machine

/-- The byte offset of a register (10_state.md R24). -/
def regOffset : Reg → Nat
  | .id => 0x000 | .ctrl => 0x004 | .status => 0x008 | .cmd => 0x00C
  | .clockHz => 0x010 | .note => 0x014 | .sampleRate => 0x018 | .cutoff => 0x01C
  | .env => 0x020 | .linGain => 0x024 | .gainDb => 0x028 | .osc1Freq => 0x02C
  | .osc2Freq => 0x030 | .durationMs => 0x034 | .mix => 0x038 | .waves => 0x03C
  | .period => 0x040 | .freq => 0x044
  | .bufHandle => 0x080 | .bufCap => 0x084 | .sampleCount => 0x088 | .osc1Period => 0x08C
  | .osc2Period => 0x090 | .osc1Pinv => 0x094 | .osc2Pinv => 0x098 | .envStep => 0x09C
  | .amp1 => 0x0A0 | .amp2 => 0x0A4 | .pbWaves => 0x0A8 | .coefFrac => 0x0AC
  | .b0 => 0x0B0 | .b1 => 0x0B4 | .b2 => 0x0B8 | .a0 => 0x0BC | .a1 => 0x0C0 | .a2 => 0x0C4
  | .fdWc => 0x0D0 | .fdTidx => 0x0D4 | .z1Re => 0x0D8 | .z1Im => 0x0DC
  | .z2Re => 0x0E0 | .z2Im => 0x0E4 | .fdSumA => 0x0E8
  | .envLut i => 0x400 + 4 * i.val

/-- The registers other than the envelope entries, in the order of 10_state.md R24. -/
def plainRegs : List Reg :=
  [.id, .ctrl, .status, .cmd, .clockHz, .note, .sampleRate, .cutoff, .env, .linGain, .gainDb,
   .osc1Freq, .osc2Freq, .durationMs, .mix, .waves, .period, .freq,
   .bufHandle, .bufCap, .sampleCount, .osc1Period, .osc2Period, .osc1Pinv, .osc2Pinv, .envStep,
   .amp1, .amp2, .pbWaves, .coefFrac, .b0, .b1, .b2, .a0, .a1, .a2,
   .fdWc, .fdTidx, .z1Re, .z1Im, .z2Re, .z2Im, .fdSumA]

/-- The register at a window offset; `none` where the window is unmapped (20_memory.md R51). -/
def regAt (off : Nat) : Option Reg :=
  if h : 0x400 ≤ off ∧ off < 0x800 then
    if off % 4 = 0 then some (.envLut ⟨(off - 0x400) / 4, by omega⟩) else none
  else plainRegs.find? fun r => decide (regOffset r = off)

/-- REG_BASE, aligned to 2048 bytes (20_memory.md R50). -/
def regBase : Nat := 2048 * Config.regBasePage

/-- The host address of a window offset, REG_BASE + offset: the host's one addressing mode
(20_memory.md R50, R59). -/
def hostAddress (off : Nat) : Nat := regBase + off

/-- The window offset a host address selects, if it lies in the window (20_memory.md R50). -/
def windowOffset (addr : Nat) : Option Nat :=
  if regBase ≤ addr ∧ addr < regBase + 2048 then some (addr - regBase) else none

/-- The input registers (10_state.md R29). -/
def isInput : Reg → Bool
  | .clockHz | .note | .sampleRate | .cutoff | .env | .linGain | .gainDb
  | .osc1Freq | .osc2Freq | .durationMs | .mix | .waves => true
  | _ => false

/-- The output registers, 0x040 to 0x0E8 and ENV_LUT (20_memory.md R56). -/
def isOutput (r : Reg) : Bool := decide (0x040 ≤ regOffset r)

/-- The value of an s16 field, sign-extended on read (10_state.md R24). -/
def sext (v : Half) : Word := v.signExtend 32

/-- The constant COEF_FRAC (10_state.md R38). -/
def coefFracWord : Word := 14

/-- The constant A0 (10_state.md R38). -/
def a0Word : Word := 16384

/-- The value a register holds, as its 32-bit word: s16 fields sign-extended, narrower fields zero-extended
(10_state.md R24, 20_memory.md R59); CMD is not storage and reads 0 (R28). -/
def regValue (r : Reg) (s : State) : Word :=
  match r with
  | .id => s.cfg.idValue
  | .ctrl => ctrlWord s
  | .status => statusWord s
  | .cmd => 0
  | .clockHz => s.inputs.clockHz
  | .note => s.inputs.note.setWidth 32
  | .sampleRate => s.inputs.sampleRate
  | .cutoff => s.inputs.cutoff
  | .env => s.inputs.env
  | .linGain => s.inputs.linGain
  | .gainDb => s.inputs.gainDb.setWidth 32
  | .osc1Freq => s.inputs.osc1Freq
  | .osc2Freq => s.inputs.osc2Freq
  | .durationMs => s.inputs.durationMs
  | .mix => s.inputs.mix.setWidth 32
  | .waves => s.inputs.waves.setWidth 32
  | .period => s.noteOut.period.setWidth 32
  | .freq => s.noteOut.freq
  | .bufHandle => s.buffer.handle
  | .bufCap => s.buffer.cap
  | .sampleCount => s.derived.sampleCount.setWidth 32
  | .osc1Period => s.derived.osc1Period
  | .osc2Period => s.derived.osc2Period
  | .osc1Pinv => s.derived.osc1Pinv.setWidth 32
  | .osc2Pinv => s.derived.osc2Pinv.setWidth 32
  | .envStep => s.derived.envStep.setWidth 32
  | .amp1 => s.derived.amp1.setWidth 32
  | .amp2 => s.derived.amp2.setWidth 32
  | .pbWaves => s.derived.pbWaves.setWidth 32
  | .coefFrac => coefFracWord
  | .b0 => sext s.filter.b0
  | .b1 => sext s.filter.b1
  | .b2 => sext s.filter.b2
  | .a0 => a0Word
  | .a1 => sext s.filter.a1
  | .a2 => sext s.filter.a2
  | .fdWc => s.filter.fdWc.setWidth 32
  | .fdTidx => s.filter.fdTidx.setWidth 32
  | .z1Re => sext s.filter.z1Re
  | .z1Im => sext s.filter.z1Im
  | .z2Re => sext s.filter.z2Re
  | .z2Im => sext s.filter.z2Im
  | .fdSumA => s.filter.fdSumA
  | .envLut i => (s.envLut.read i.val).setWidth 32

/-- Whether a read of the register is a free draw: an output register while STATUS.BUSY = 1
(20_memory.md R56, R58; log 4 for A0 and COEF_FRAC). An input register is never free, so LIN_GAIN reads in GEN_WAIT
what SYNTHESIZE committed (the model's choice, log 23). -/
def readIsFree (r : Reg) (s : State) : Bool := isOutput r && busy s

/-- `RegRead(off)` of an aligned 32-bit read (20_memory.md R56): unmapped offsets read 0 (R55), an output
register reads a free value while BUSY (R58), every other register reads its value. -/
def regRead (off : Nat) (s : State) : Word :=
  match regAt off with
  | none => 0
  | some r => if readIsFree r s then Config.freeRead s.draws else regValue r s

/-- The state after `RegRead(off)`: no read has a side effect (20_memory.md R56); a free value is drawn once
(log 3). -/
def afterRead (off : Nat) (s : State) : State :=
  match regAt off with
  | none => s
  | some r => if readIsFree r s then { s with draws := s.draws + 1 } else s

/-- Store the defined fields of a word in an input register; reserved bits are dropped (10_state.md R29).
Any other register is left alone. -/
def storeInput (r : Reg) (v : Word) (x : Inputs) : Inputs :=
  match r with
  | .clockHz => { x with clockHz := v }
  | .note => { x with note := v.setWidth 8 }
  | .sampleRate => { x with sampleRate := v }
  | .cutoff => { x with cutoff := v }
  | .env => { x with env := v }
  | .linGain => { x with linGain := v }
  | .gainDb => { x with gainDb := v.setWidth 16 }
  | .osc1Freq => { x with osc1Freq := v }
  | .osc2Freq => { x with osc2Freq := v }
  | .durationMs => { x with durationMs := v }
  | .mix => { x with mix := v.setWidth 8 }
  | .waves => { x with waves := v.setWidth 4 }
  | _ => x

/-- `Offer(v)`: a word offered as a command while STATUS.BUSY = 0 (30_encoding.md R66). -/
def offer (v : Word) (s : State) : State :=
  match decode v with
  | .ok i => accept i s
  | .error _ => rejectIllegal s

/-- A write to CMD (10_state.md R28): lost while BUSY, else an offer. -/
def writeCmd (v : Word) (s : State) : State := if busy s then setOverrun s else offer v s

/-- A write to an input register (10_state.md R29): lost while BUSY, else stored. -/
def writeInput (r : Reg) (v : Word) (s : State) : State :=
  if busy s then setOverrun s else { s with inputs := storeInput r v s.inputs }

/-- `RegWrite(off, v)` of an aligned 32-bit write (20_memory.md R57): unmapped and read-only offsets ignore
it. -/
def regWrite (off : Nat) (v : Word) (s : State) : State :=
  match regAt off with
  | none => s
  | some .ctrl => writeCtrl v s
  | some .status => writeStatus v s
  | some .cmd => writeCmd v s
  | some r => if isInput r then writeInput r v s else s

/-- A host read (20_memory.md R52, R53): a bus error for any access that is not an aligned 32-bit one. -/
def hostRead (off width : Nat) (s : State) : Host.Outcome State Fault Refusal :=
  if 2048 ≤ off then .fault .outsideWindow
  else if accessWellFormed off width then
    .next (setReply (.data (regRead off s)) (afterRead off s))
  else .next (setReply .busError s)

/-- A host write (20_memory.md R52, R53): a bus error, and no change of the block, for any access that is not
an aligned 32-bit one. -/
def hostWrite (off width : Nat) (v : Word) (s : State) : Host.Outcome State Fault Refusal :=
  if 2048 ≤ off then .fault .outsideWindow
  else if accessWellFormed off width then .next (setReply .written (regWrite off v s))
  else .next (setReply .busError s)

/-- The bus transaction of a host operation (30_encoding.md R71); the value is reduced with `wrap32`. -/
def hostOpEvent : HostOp → Event
  | .wr r v => .hostWrite (regOffset r) 32 (BitVec.ofInt 32 v)
  | .rd r => .hostRead (regOffset r) 32

/-- `cmd OPNAME` expands to `wr CMD, <word of OPNAME>` (30_encoding.md R72). -/
def hostCmd (i : Instr) : HostOp := .wr .cmd (encode i).toNat

/-- One turn of the `wait` loop: `rd STATUS -> s` (30_encoding.md R72). -/
def hostPoll : HostOp := .rd .status

/-- `ack` expands to `wr STATUS, 0x00000006` (30_encoding.md R72). -/
def hostAck : HostOp := .wr .status 6

end Sys2Proof.Machine
end

