-- ==== Sys2Proof/Machine/Events.lean ====
section
/-! DEFINITION. What reaches the block from outside: host accesses, the agents' messages and reset
(60_exceptions.md R124, R129, R130). -/

namespace Sys2Proof.Machine

/-- The allocator's answer, in reply to the outstanding request (43_orchestrator.md R114). An answer to a
request made before a reset is ignored (70_reset_and_hazards.md R136); that an ignored `OK(h)` leaves the list of
live handles alone, so that the allocator may answer h again, is the model's choice (log 24). -/
def onAllocAnswer (epoch : Nat) (ans : AllocAnswer) (s : State) : Host.Outcome State Fault Refusal :=
  if epoch < s.epoch then .next s
  else if s.epoch < epoch then .fault .unsolicitedAllocAnswer
  else
    match s.fsm, ans with
    | .allocWait _ _, .fail => .next (complete .allocFail s)
    | .allocWait size k, .ok h =>
      if h = 0 ∨ h ∈ s.live then .fault .badAllocHandle else .next (synthGranted size k h s)
    | _, _ => .fault .unsolicitedAllocAnswer

/-- GenDone completes a SYNTHESIZE in GEN_WAIT (43_orchestrator.md R115). One for a pass started before a reset
is ignored (70_reset_and_hazards.md R136). -/
def onGenDone (epoch : Nat) (s : State) : Host.Outcome State Fault Refusal :=
  if epoch < s.epoch then .next s
  else if s.epoch < epoch then .fault .unsolicitedGenDone
  else
    match s.fsm with
    | .genWait => .next (complete .none s)
    | _ => .fault .unsolicitedGenDone

/-- The registers the generation port serves: the parameter block's and ENV_LUT (60_exceptions.md R130; "the
coefficients" are B0 to A2 with COEF_FRAC, 10_state.md R37; log 19). -/
def genServes : Reg → Bool
  | .sampleCount | .osc1Pinv | .osc2Pinv | .envStep | .pbWaves | .amp1 | .amp2
  | .osc1Period | .osc2Period | .coefFrac | .b0 | .b1 | .b2 | .a0 | .a1 | .a2 => true
  | .envLut _ => true
  | _ => false

/-- A read through the generation port, while the state is GEN_WAIT: the committed value
(20_memory.md R62, 60_exceptions.md R130). -/
def onGenRead (r : Reg) (s : State) : Host.Outcome State Fault Refusal :=
  match s.fsm with
  | .genWait =>
    if genServes r then .next (setReply (.genData (regValue r s)) s) else .fault .generationPortRead
  | _ => .fault .generationPortRead

/-- One event takes effect (60_exceptions.md R124). -/
def takeEvent (e : Event) (s : State) : Host.Outcome State Fault Refusal :=
  match e with
  | .hostRead off width => hostRead off width s
  | .hostWrite off width v => hostWrite off width v s
  | .allocAnswer epoch ans => onAllocAnswer epoch ans s
  | .genRead r => onGenRead r s
  | .genDone epoch => onGenDone epoch s
  | .reset withAgents => .next (resetBlock withAgents s)

end Sys2Proof.Machine
end

