-- ==== Sys2Proof/Machine/Step.lean ====
section
/-! DEFINITION. One step of the machine: the next arrival takes effect, and a command in RUN runs when the
schedule says so (60_exceptions.md R124, 70_reset_and_hazards.md R145). -/

namespace Sys2Proof.Machine

/-- The block's own action: a command in RUN runs; in every other state the block waits
(10_state.md R46, 60_exceptions.md R134). -/
def progress (s : State) : Host.Outcome State Fault Refusal :=
  match s.fsm with
  | .run i => exec i s
  | .idle => .next s
  | .allocWait _ _ => .next s
  | .genWait => .next s

/-- The block's action in the step of an arrival, if the schedule lets it act there (log 2). -/
def settle (runs : Bool) (s : State) : Host.Outcome State Fault Refusal :=
  if runs then progress s else .next s

/-- An arrival takes effect, then the block may act. The answer to the last port access is over. -/
def stepArrival (a : Arrival) (s : State) : Host.Outcome State Fault Refusal :=
  match takeEvent a.event (setReply .none s) with
  | .next t => settle a.runs t
  | .fault f => .fault f
  | .refused r => .refused r

/-- One step. An ill-formed configuration is refused (10_state.md R45). With no arrival, a command in RUN runs
and a waiting block waits. -/
def step (s : State) : Host.Outcome State Fault Refusal :=
  guarded s <|
    match s.inbox with
    | [] => progress (setReply .none s)
    | a :: rest => stepArrival a { s with inbox := rest }

/-- The arrival that offers a word to CMD and lets the command run in the same step. -/
def commandArrival (w : Word) : Arrival := { event := .hostWrite 0x00C 32 w, runs := true }

/-- `s` with the instruction `w` of `nbits` bits where the next step fetches it: the host's next access is a
write of it to CMD, and the block is IDLE so that it takes it (30_encoding.md R66; log 1). -/
def State.withFetchWord (s : State) (nbits w : Nat) : State :=
  { s with
    inbox := commandArrival (BitVec.ofNat 32 (w % 2 ^ nbits)) :: s.inbox
    fsm := .idle }

end Sys2Proof.Machine
end

