-- ==== Sys2Proof/Safety.lean ====
section
/-! DEFINITION. What counts as a sound state and a safe run of BEEP-CORE, in the terms the statements use. -/

namespace Sys2Proof.Machine

/-- A sample count as rule R102 of 43_orchestrator.md gives it: even and in 256..32766. -/
def CountInRange (n : Nat) : Prop := n % 2 = 0 ∧ 256 ≤ n ∧ n ≤ 32766

/-- What a derivation leaves in its registers (43_orchestrator.md R102 to R106), under a configuration. -/
def DerivedInRange (c : Config) (d : DerivedRegs) : Prop :=
  CountInRange d.sampleCount.toNat ∧
    1 ≤ d.osc1Period.toNat ∧ 1 ≤ d.osc2Period.toNat ∧
    d.osc1Pinv.toNat ≤ 65536 ∧ d.osc2Pinv.toNat ≤ 65536 ∧
    512 ≤ d.envStep.toNat ∧ d.envStep.toNat ≤ 65536 ∧
    d.amp1.toNat + d.amp2.toNat = c.maxAmp

/-- The derivation registers hold their reset values or the result of a derivation. -/
def DerivedInv (s : State) : Prop := s.derived = resetDerived ∨ DerivedInRange s.cfg s.derived

/-- The buffer invariant (43_orchestrator.md R109): no handle exactly when no capacity, and the capacity is a
multiple of 4096 up to 32768 (so at least 4096 when there is a buffer). -/
def BufferInv (s : State) : Prop :=
  (s.buffer.handle = 0 ↔ s.buffer.cap = 0) ∧ s.buffer.cap.toNat % 4096 = 0 ∧ s.buffer.cap.toNat ≤ 32768

/-- A pending request (10_state.md R47): its size is the allocation class of the count to be committed, a
multiple of 4096 in 4096..32768 (60_exceptions.md R129), and 256 envelope entries wait. -/
def PendingInv (s : State) : Prop :=
  ∀ size k, s.fsm = .allocWait size k →
    size = allocSize k.derived.sampleCount.toNat ∧ size % 4096 = 0 ∧ 4096 ≤ size ∧ size ≤ 32768 ∧
      k.lut.length = 256 ∧ DerivedInRange s.cfg k.derived

/-- While the generation agent works there is a buffer, of at least SAMPLE_COUNT bytes
(43_orchestrator.md R109, 60_exceptions.md R130). -/
def GenerationInv (s : State) : Prop :=
  s.fsm = .genWait →
    s.buffer.handle ≠ 0 ∧ DerivedInRange s.cfg s.derived ∧
      s.derived.sampleCount.toNat ≤ s.buffer.cap.toNat

/-- While STATUS.BUSY = 1, DONE and ERR are 0: acceptance clears them and completion sets them
(10_state.md R27). -/
def BusyInv (s : State) : Prop := busy s = true → s.done = false ∧ s.err = .none

/-- The block's handle is live, and 0 is no live handle (60_exceptions.md R129). -/
def LiveInv (s : State) : Prop :=
  (s.buffer.handle ≠ 0 → s.buffer.handle ∈ s.live) ∧ (0 : Word) ∉ s.live

/-- The state invariant that every step keeps. -/
structure State.Inv (s : State) : Prop where
  memory     : s.envLut.wf = true
  buffer     : BufferInv s
  derived    : DerivedInv s
  pending    : PendingInv s
  generation : GenerationInv s
  busy       : BusyInv s
  live       : LiveInv s

/-- The registers a command writes (30_encoding.md R68); STATUS, which every command writes, apart. -/
def commandWrites : Instr → Reg → Bool
  | .nop, _ => false
  | .resolveNote, .period | .resolveNote, .freq => true
  | .resolveNote, _ => false
  | .designFilter, r => isFilterReg r
  | .buildEnv, .envLut _ => true
  | .buildEnv, _ => false
  | .derive, r => isDerivedReg r
  | .synthesize, .envLut _ => true
  | .synthesize, .linGain | .synthesize, .bufHandle | .synthesize, .bufCap => true
  | .synthesize, r => isFilterReg r || isDerivedReg r
  | .release, .bufHandle | .release, .bufCap => true
  | .release, _ => false
where
  /-- The registers of a filter design (41_filter.md R92). -/
  isFilterReg : Reg → Bool
    | .b0 | .b1 | .b2 | .a1 | .a2 | .fdWc | .fdTidx | .z1Re | .z1Im | .z2Re | .z2Im | .fdSumA => true
    | _ => false
  /-- The registers of the derivation set (43_orchestrator.md R110). -/
  isDerivedReg : Reg → Bool
    | .sampleCount | .osc1Period | .osc2Period | .osc1Pinv | .osc2Pinv | .envStep | .amp1 | .amp2
    | .pbWaves => true
    | _ => false

/-- The bits of an input register that hold a field, as the register map gives them (10_state.md R24). -/
def inputMask : Reg → Word
  | .note => 0xFF
  | .gainDb => 0xFFFF
  | .mix => 0xFF
  | .waves => 0xF
  | _ => 0xFFFFFFFF

/-- The reset value of a register in the register map (10_state.md R24, 70_reset_and_hazards.md R138). -/
def resetRegValue (c : Config) : Reg → Word
  | .id => c.idValue
  | .clockHz => c.clockReset
  | .a0 => 16384
  | .coefFrac => 14
  | _ => 0

/-- The word at an offset names a read-only register (10_state.md R24). -/
def readOnly (r : Reg) : Bool := !isInput r && decide (r ≠ .ctrl ∧ r ≠ .status ∧ r ≠ .cmd)

/-- A handle that a read of BUF_HANDLE gives in this state and that a collaborator may use: no accepted
SYNTHESIZE or RELEASE is under way (43_orchestrator.md R119, 70_reset_and_hazards.md R142). The block does not
check its use. -/
def handleValid (h : Word) (s : State) : Bool :=
  decide (h ≠ 0) && decide (s.buffer.handle = h) &&
    match s.fsm with
    | .idle => true
    | .run .synthesize => false
    | .run .release => false
    | .run _ => true
    | .allocWait _ _ => false
    | .genWait => false

/-- A step that stops: a fault or a refusal. A safe run has none. -/
def stops (o : Host.Outcome State Fault Refusal) : Bool :=
  match o with
  | .next _ => false
  | .fault _ => true
  | .refused _ => true

end Sys2Proof.Machine
end

