-- ==== Sys2Proof/Certificates/Slice0/Obligations.lean ====
section
/-! DEFINITION. The statements about the model, one def each. A docstring names the rule a statement formalises, or
the log entry where it is the model's own choice. What every statement shares is said here once: the arrivals stand in
State.inbox (log 1), the bus reply in State.reply (log 11), the messages sent in State.outbox (log 14), and exec is a
command's effect from RUN, which does not look at the command state machine (log 21). -/

open Sys2Proof Sys2Proof.Machine

/-! ### Command words (30_encoding.md) -/

/-- R65, R67: a word decodes to a command exactly when it is that command's word, and decoding undoes encoding. -/
def Obligations.DecodeAgreesWithTheOpcodeMap : Prop :=
  (∀ w : Word,
    (decode w = .ok .nop ↔ w = 0) ∧ (decode w = .ok .resolveNote ↔ w = 1) ∧
    (decode w = .ok .designFilter ↔ w = 2) ∧ (decode w = .ok .buildEnv ↔ w = 3) ∧
    (decode w = .ok .derive ↔ w = 4) ∧ (decode w = .ok .synthesize ↔ w = 5) ∧
    (decode w = .ok .release ↔ w = 6)) ∧
  (∀ (w : Word) (i : Instr), decode w = .ok i ↔ w = encode i)

/-- R67, R70: a few words written out from the opcode map, legal and illegal. -/
def Obligations.DecodeOfWrittenOutWords : Prop :=
  decode 0x00000000 = .ok .nop ∧ decode 0x00000005 = .ok .synthesize ∧
    decode 0x00000006 = .ok .release ∧ decode 0x00000007 = .error .reservedOpcode ∧
    decode 0x0000000F = .error .reservedOpcode ∧ decode 0x00000010 = .error .reservedBits ∧
    decode 0x80000001 = .error .reservedBits

/-- R70: a word with a bit in 31:4, or OP in 0x7..0xF, written to CMD while BUSY = 0, completes at once with
ERR_ILLEGAL. No register but STATUS changes, and BUSY is 0 in the very next state. -/
def Obligations.IllegalWordCompletesWithErrIllegal : Prop :=
  ∀ (s : State) (w : Word), busy s = false →
    (w.extractLsb' 4 28 ≠ 0 ∨ 7 ≤ (w.extractLsb' 0 4).toNat) →
    ∃ t, hostWrite 0x00C 32 w s = .next t ∧
      t = { s with reply := .written, done := true, err := .illegal } ∧
      (∀ r, r ≠ .status → regValue r t = regValue r s) ∧
      (regValue .status t).extractLsb' 4 4 = 1 ∧ busy t = false ∧ irq t = s.ctrlIE

/-- R66: a legal word written to CMD while BUSY = 0 is accepted: DONE and ERR are cleared, the state is RUN(op), and
nothing else changes. -/
def Obligations.CommandWordIsAccepted : Prop :=
  ∀ (s : State) (i : Instr), busy s = false →
    hostWrite 0x00C 32 (encode i) s =
      .next { s with reply := .written, done := false, err := .none, fsm := .run i }

/-- R71, R72: the bus transactions of `wr`, `rd`, `cmd` and `ack`. -/
def Obligations.HostOperationsExpandToBusTransactions : Prop :=
  (∀ r v, hostOpEvent (.wr r v) = .hostWrite (regOffset r) 32 (BitVec.ofInt 32 v)) ∧
  (∀ r, hostOpEvent (.rd r) = .hostRead (regOffset r) 32) ∧
  (∀ i, hostOpEvent (hostCmd i) = .hostWrite 0x00C 32 (encode i)) ∧
  hostOpEvent hostAck = .hostWrite 0x008 32 0x00000006 ∧
  hostOpEvent hostPoll = .hostRead 0x008 32

/-! ### The register window (10_state.md, 20_memory.md) -/

/-- R23, R24: the offsets of the register map; every register has an offset of its own in the window, a multiple of 4,
and no offset names two registers. -/
def Obligations.RegisterOffsetsDoNotAlias : Prop :=
  ([Reg.id, .ctrl, .status, .cmd].map regOffset = [0x000, 0x004, 0x008, 0x00C] ∧
    [Reg.clockHz, .note, .sampleRate, .cutoff, .env, .linGain, .gainDb, .osc1Freq, .osc2Freq, .durationMs,
      .mix, .waves].map regOffset =
      [0x010, 0x014, 0x018, 0x01C, 0x020, 0x024, 0x028, 0x02C, 0x030, 0x034, 0x038, 0x03C] ∧
    [Reg.period, .freq, .bufHandle, .bufCap, .sampleCount, .osc1Period, .osc2Period, .osc1Pinv, .osc2Pinv,
      .envStep, .amp1, .amp2, .pbWaves, .coefFrac].map regOffset =
      [0x040, 0x044, 0x080, 0x084, 0x088, 0x08C, 0x090, 0x094, 0x098, 0x09C, 0x0A0, 0x0A4, 0x0A8, 0x0AC] ∧
    [Reg.b0, .b1, .b2, .a0, .a1, .a2, .fdWc, .fdTidx, .z1Re, .z1Im, .z2Re, .z2Im, .fdSumA].map regOffset =
      [0x0B0, 0x0B4, 0x0B8, 0x0BC, 0x0C0, 0x0C4, 0x0D0, 0x0D4, 0x0D8, 0x0DC, 0x0E0, 0x0E4, 0x0E8] ∧
    ∀ i : Fin 256, regOffset (.envLut i) = 0x400 + 4 * i.val) ∧
  (∀ r, regAt (regOffset r) = some r ∧ regOffset r < 2048 ∧ regOffset r % 4 = 0) ∧
  (∀ off r, regAt off = some r → off = regOffset r)

/-- R56: an aligned 32-bit read, for every offset of the window: 0 where the window is unmapped and for CMD, a free
draw for an output register while BUSY = 1, else the register's value. No read changes the block. The count of free
draws is the model's own (log 3). That A0 and COEF_FRAC, which R38 calls constants, are free draws too while BUSY is
the model's choice of R56 and R58 over R38 (log 4, DEDUCED). -/
def Obligations.RegReadFollowsTheRule : Prop :=
  ∀ (s : State) (off : Nat), off < 2048 → off % 4 = 0 →
    ((∀ r, regOffset r ≠ off) → hostRead off 32 s = .next { s with reply := .data 0 }) ∧
    (∀ r, regOffset r = off → (0x040 ≤ off ∧ busy s = true) →
      hostRead off 32 s =
        .next { s with reply := .data (Config.freeRead s.draws), draws := s.draws + 1 }) ∧
    (∀ r, regOffset r = off → ¬ (0x040 ≤ off ∧ busy s = true) →
      hostRead off 32 s = .next { s with reply := .data (regValue r s) }) ∧
    regValue .cmd s = 0

/-- R24, R26, R28, R59: every register but STATUS reads its field: s16 fields sign-extended, narrower fields (CTRL's
IE among them) zero-extended, whole words as they are, constants as the map gives them. -/
def Obligations.RegisterValuesExtendTheirFields : Prop :=
  ∀ s : State,
    ((regValue .b0 s).toInt = s.filter.b0.toInt ∧ (regValue .b1 s).toInt = s.filter.b1.toInt ∧
      (regValue .b2 s).toInt = s.filter.b2.toInt ∧ (regValue .a1 s).toInt = s.filter.a1.toInt ∧
      (regValue .a2 s).toInt = s.filter.a2.toInt ∧ (regValue .z1Re s).toInt = s.filter.z1Re.toInt ∧
      (regValue .z1Im s).toInt = s.filter.z1Im.toInt ∧ (regValue .z2Re s).toInt = s.filter.z2Re.toInt ∧
      (regValue .z2Im s).toInt = s.filter.z2Im.toInt) ∧
    ((regValue .note s).toNat = s.inputs.note.toNat ∧ (regValue .gainDb s).toNat = s.inputs.gainDb.toNat ∧
      (regValue .mix s).toNat = s.inputs.mix.toNat ∧ (regValue .waves s).toNat = s.inputs.waves.toNat ∧
      (regValue .period s).toNat = s.noteOut.period.toNat ∧
      (regValue .sampleCount s).toNat = s.derived.sampleCount.toNat ∧
      (regValue .osc1Pinv s).toNat = s.derived.osc1Pinv.toNat ∧
      (regValue .osc2Pinv s).toNat = s.derived.osc2Pinv.toNat ∧
      (regValue .envStep s).toNat = s.derived.envStep.toNat ∧
      (regValue .amp1 s).toNat = s.derived.amp1.toNat ∧ (regValue .amp2 s).toNat = s.derived.amp2.toNat ∧
      (regValue .pbWaves s).toNat = s.derived.pbWaves.toNat ∧
      (regValue .fdWc s).toNat = s.filter.fdWc.toNat ∧ (regValue .fdTidx s).toNat = s.filter.fdTidx.toNat ∧
      (∀ i, (regValue (.envLut i) s).toNat = (s.envLut.read i.val).toNat) ∧
      (regValue .ctrl s).toNat = (if s.ctrlIE then 1 else 0)) ∧
    (regValue .freq s = s.noteOut.freq ∧ regValue .bufHandle s = s.buffer.handle ∧
      regValue .bufCap s = s.buffer.cap ∧ regValue .osc1Period s = s.derived.osc1Period ∧
      regValue .osc2Period s = s.derived.osc2Period ∧ regValue .fdSumA s = s.filter.fdSumA ∧
      regValue .clockHz s = s.inputs.clockHz ∧ regValue .sampleRate s = s.inputs.sampleRate ∧
      regValue .cutoff s = s.inputs.cutoff ∧ regValue .env s = s.inputs.env ∧
      regValue .linGain s = s.inputs.linGain ∧ regValue .osc1Freq s = s.inputs.osc1Freq ∧
      regValue .osc2Freq s = s.inputs.osc2Freq ∧ regValue .durationMs s = s.inputs.durationMs) ∧
    regValue .cmd s = 0 ∧ regValue .coefFrac s = 14 ∧ regValue .a0 s = 16384 ∧ regValue .id s = s.cfg.idValue

/-- R27: the fields of the STATUS word: BUSY bit 0, DONE bit 1, OVR bit 2, ERR bits 7:4, BUFV bit 8, the rest 0; BUSY
= 1 exactly when the state is not IDLE (R46), and ERR holds the code of the error (R120). -/
def Obligations.StatusWordHasItsFields : Prop :=
  (errCode .none = 0 ∧ errCode .illegal = 1 ∧ errCode .arg = 2 ∧ errCode .allocFail = 3) ∧
  ∀ s : State,
    (regValue .status s).getLsbD 0 = busy s ∧ (busy s = true ↔ s.fsm ≠ .idle) ∧
    (regValue .status s).getLsbD 1 = s.done ∧ (regValue .status s).getLsbD 2 = s.ovr ∧
    (regValue .status s).getLsbD 3 = false ∧
    (regValue .status s).extractLsb' 4 4 = errCode s.err ∧ (errCode s.err).toNat ≤ 3 ∧
    ((regValue .status s).getLsbD 8 = true ↔ s.buffer.handle ≠ 0) ∧
    (regValue .status s).extractLsb' 9 23 = 0

/-- R53: an access that is not 32 bits wide, or not at a multiple of 4, gets a bus error and changes no state of the
block. -/
def Obligations.UnalignedAccessIsABusError : Prop :=
  ∀ (s : State) (off width : Nat) (v : Word), off < 2048 → (width ≠ 32 ∨ off % 4 ≠ 0) →
    hostRead off width s = .next { s with reply := .busError } ∧
    hostWrite off width v s = .next { s with reply := .busError }

/-- The model's own choice (log 12): an access outside the 2048 bytes of the window of R50 faults. -/
def Obligations.AccessOutsideTheWindowFaults : Prop :=
  ∀ (s : State) (off width : Nat) (v : Word), 2048 ≤ off →
    hostRead off width s = .fault .outsideWindow ∧ hostWrite off width v s = .fault .outsideWindow

/-- R57: an aligned 32-bit write, for every offset of the window: unmapped and read-only offsets ignore it, CTRL takes
IE at any time, STATUS has its W1C bits cleared at any time, CMD and the input registers lose it with OVR set while
BUSY = 1, else an input register stores its defined fields and CMD is offered the word. -/
def Obligations.RegWriteFollowsTheRule : Prop :=
  ∀ (s : State) (off : Nat) (v : Word), off < 2048 → off % 4 = 0 →
    ((∀ r, regOffset r ≠ off) → hostWrite off 32 v s = .next { s with reply := .written }) ∧
    (∀ r, regOffset r = off → readOnly r = true → hostWrite off 32 v s = .next { s with reply := .written }) ∧
    hostWrite 0x004 32 v s = .next { s with reply := .written, ctrlIE := v.getLsbD 0 } ∧
    hostWrite 0x008 32 v s =
      .next { s with reply := .written, done := s.done && !v.getLsbD 1, ovr := s.ovr && !v.getLsbD 2 } ∧
    (busy s = true → hostWrite 0x00C 32 v s = .next { s with reply := .written, ovr := true }) ∧
    (busy s = false → hostWrite 0x00C 32 v s = .next { offer v s with reply := .written }) ∧
    (∀ r, regOffset r = off → isInput r = true → busy s = true →
      hostWrite off 32 v s = .next { s with reply := .written, ovr := true }) ∧
    (∀ r, regOffset r = off → isInput r = true → busy s = false →
      hostWrite off 32 v s = .next { s with reply := .written, inputs := storeInput r v s.inputs } ∧
      regValue r { s with inputs := storeInput r v s.inputs } = v &&& inputMask r)

/-- R29, R60: an input register written while BUSY = 0 reads back the written value without its reserved bits, and no
other register changes. -/
def Obligations.InputRegisterReadsBackWhatWasWritten : Prop :=
  ∀ (s : State) (r : Reg) (v : Word), isInput r = true → busy s = false →
    ∃ t, hostWrite (regOffset r) 32 v s = .next t ∧
      hostRead (regOffset r) 32 t = .next { t with reply := .data (v &&& inputMask r) } ∧
      (∀ q, q ≠ r → regValue q t = regValue q s)

/-- R128: the line is CTRL.IE AND STATUS.DONE as they read, on the controller's input of the platform's number and on
no other (log 13); clearing DONE, accepting a command, a reset or clearing IE lowers it, the last without clearing
DONE. The two kinds of reset are the model's own (log 18). -/
def Obligations.InterruptLineFollowsEnableAndDone : Prop :=
  ∀ s : State,
    irq s = ((regValue .ctrl s).getLsbD 0 && (regValue .status s).getLsbD 1) ∧
    irqInput Config.irqNumber s = irq s ∧ (∀ n, n ≠ Config.irqNumber → irqInput n s = false) ∧
    (∃ t, hostWrite 0x008 32 0x2 s = .next t ∧ irq t = false) ∧
    (∃ t, hostWrite 0x004 32 0 s = .next t ∧ irq t = false ∧ t.done = s.done) ∧
    (∀ i, busy s = false → ∃ t, hostWrite 0x00C 32 (encode i) s = .next t ∧ irq t = false) ∧
    (∀ b, irq (resetBlock b s) = false)

/-! ### The step -/

/-- R66, R45 (log 1, log 2): when the next arrival is a write of a word to CMD, BUSY = 0 and the word decodes to a
command, and the schedule lets the block act, the step accepts the command and answers what exec answers. -/
def Obligations.StepRunsTheDecodedCommand : Prop :=
  ∀ (s : State) (w : Word) (i : Instr) (rest : List Arrival),
    s.cfg.wellFormed = true → busy s = false → i.wellFormed = true → decode w = .ok i →
    s.inbox = { event := .hostWrite 0x00C 32 w, runs := true } :: rest →
    step s =
      exec i { s with inbox := rest, reply := .written, done := false, err := .none, fsm := .run i }

/-- Log 2 (R46, R145): a command that the schedule held in RUN runs in a step with no arrival, and after an arrival
where the schedule lets it; where it does not, the arrival alone takes effect. A command write that does not let the
block act only accepts the command. -/
def Obligations.StepRunsAHeldCommand : Prop :=
  (∀ (s : State) (i : Instr), s.cfg.wellFormed = true → s.fsm = .run i → s.inbox = [] →
    step s = exec i { s with reply := .none }) ∧
  (∀ (s : State) (w : Word) (i : Instr) (rest : List Arrival),
    s.cfg.wellFormed = true → busy s = false → decode w = .ok i →
    s.inbox = { event := .hostWrite 0x00C 32 w, runs := false } :: rest →
    step s =
      .next { s with inbox := rest, reply := .written, done := false, err := .none, fsm := .run i }) ∧
  (∀ (s u : State) (i : Instr) (e : Event) (b : Bool) (rest : List Arrival),
    s.cfg.wellFormed = true → s.fsm = .run i → s.inbox = { event := e, runs := b } :: rest →
    takeEvent e { s with inbox := rest, reply := .none } = .next u →
    ((∀ a, e ≠ .reset a) → u.fsm = .run i) ∧
    (b = true → u.fsm = .run i → step s = exec i u) ∧
    (b = true → u.fsm = .idle → step s = .next u) ∧
    (b = false → step s = .next u))

/-- The host's fetch word: the very next step runs the command of an encoded word (log 1). -/
def Obligations.FetchWordIsRunByTheNextStep : Prop :=
  ∀ (s : State) (i : Instr), s.cfg.wellFormed = true →
    step (s.withFetchWord 32 (encode i).toNat) =
      exec i { s with reply := .written, done := false, err := .none, fsm := .run i }

/-- R134 (log 1): a block with no command in RUN and no arrival waits. -/
def Obligations.BlockWithoutArrivalWaits : Prop :=
  ∀ s : State, s.cfg.wellFormed = true → s.inbox = [] → (∀ i, s.fsm ≠ .run i) →
    step s = .next { s with reply := .none }

/-- R45: a configuration that fails any of the eight checks is refused; the reference configuration passes them. That
every step and every command refuses it is DEDUCED (log 7). -/
def Obligations.IllFormedConfigurationIsRefused : Prop :=
  (∀ s : State,
    ¬ ((0 < s.cfg.sinRom.length ∧ s.cfg.sinRom.length % 8 = 0) ∧
        ([0, 1, 2, 3].filter fun k => decide (cosEntry s.cfg (poleAngle s.cfg k) < 0)).length = 2 ∧
        ((∀ v ∈ s.cfg.tanRom, v ≤ 32767) ∧ 1 ≤ s.cfg.tanRom.length) ∧
        (∀ row ∈ s.cfg.periodRom, ∀ v ∈ row, 1 ≤ v ∧ v ≤ 65535) ∧
        (s.cfg.dbMin ≤ s.cfg.dbMax ∧ -32768 ≤ s.cfg.dbMin ∧ s.cfg.dbMax ≤ 32767 ∧
          ∀ v ∈ s.cfg.dbRom, v < 4294967296) ∧
        s.cfg.kCorr ≤ 65535 ∧ s.cfg.maxAmp ≤ 65535 ∧ s.cfg.envMax ≤ 65535) →
      step s = .refused .illFormedConfiguration ∧ ∀ i, exec i s = .refused .illFormedConfiguration) ∧
  referenceConfig.wellFormed = true

/-- R9: no step changes the construction parameters. That they stand in State is the model's choice (log 6). -/
def Obligations.ConfigurationNeverChanges : Prop :=
  ∀ s t : State, step s = .next t → t.cfg = s.cfg

/-! ### NOP and RESOLVE_NOTE (43_orchestrator.md, 40_note.md) -/

/-- R112, R121: NOP completes with ERR_NONE and changes nothing else; the line rises when CTRL.IE = 1. -/
def Obligations.NopOnlyCompletes : Prop :=
  ∀ s : State, s.cfg.wellFormed = true →
    exec .nop s = .next { s with done := true, err := .none, fsm := .idle } ∧
    ∀ t, exec .nop s = .next t → irq t = s.ctrlIE

/-- R76 with R73 to R75: PERIOD is the period ROM's entry of the clamped note and FREQ the rounded quotient of
CLOCK_HZ by it, both without narrowing loss; nothing else but the completion changes. -/
def Obligations.ResolveNoteWritesPeriodAndFreq : Prop :=
  ∀ s : State, s.cfg.wellFormed = true →
    ∃ t, exec .resolveNote s = .next t ∧
      t = { s with noteOut := t.noteOut, done := true, err := .none, fsm := .idle } ∧
      t.noteOut.period.toNat =
        (s.cfg.periodRom.getD
          (min (max (s.inputs.note.toNat / 16) s.cfg.octBase) (s.cfg.octBase + 2) - s.cfg.octBase) []).getD
          (min (s.inputs.note.toNat % 16) 11) 0 ∧
      1 ≤ t.noteOut.period.toNat ∧
      t.noteOut.freq.toNat =
        (2 * s.inputs.clockHz.toNat + t.noteOut.period.toNat) / (2 * t.noteOut.period.toNat)

/-- R77: |FREQ - CLOCK_HZ/PERIOD| <= 1/2 for every note and every clock. -/
def Obligations.NoteRoundTripIsWithinHalf : Prop :=
  ∀ s : State, s.cfg.wellFormed = true →
    ∃ t, exec .resolveNote s = .next t ∧
      2 * ((t.noteOut.freq.toNat : Int) * t.noteOut.period.toNat - s.inputs.clockHz.toNat).natAbs
        ≤ t.noteOut.period.toNat

/-! ### DESIGN_FILTER (41_filter.md) -/

/-- R83, R84, R92, R93: with SAMPLE_RATE > 0 the design of the clamped cutoff's tangent index is committed and nothing
else but the completion changes; every register holds its exact value, FD_TIDX the index saturated to 16 bits (R19;
log 5 for the bound). -/
def Obligations.DesignFilterCommitsTheDesign : Prop :=
  ∀ s : State, s.cfg.wellFormed = true → s.inputs.sampleRate ≠ 0 →
    let sr := s.inputs.sampleRate.toNat
    let cutoff := s.inputs.cutoff.toNat
    let fc := if cutoff = 0 ∨ sr / 4 < cutoff then sr / 4 else cutoff
    let d := filterDesign s.cfg sr cutoff
    let f := designRegs d
    exec .designFilter s = .next { s with filter := f, done := true, err := .none, fsm := .idle } ∧
      d = designAt s.cfg (min (4 * s.cfg.tanRom.length * fc / sr) (s.cfg.tanRom.length - 1)) ∧
      f.b0.toInt = d.b0 ∧ f.b1.toInt = d.b1 ∧ f.b2.toInt = d.b2 ∧ d.a0 = 16384 ∧
      f.a1.toInt = d.a1 ∧ f.a2.toInt = d.a2 ∧ f.fdWc.toNat = d.wc ∧
      f.fdTidx.toNat = min d.tidx 65535 ∧
      f.z1Re.toInt = d.z1.re ∧ f.z1Im.toInt = d.z1.im ∧ f.z2Re.toInt = d.z2.re ∧ f.z2Im.toInt = d.z2.im ∧
      f.fdSumA.toInt = d.sumA

/-- R85, R86: the design of a tangent index takes the two candidate poles with a negative cosine, in rising order,
scales them by the ROM's prewarped cutoff, and maps each by the exact quotient (1+s)(1-conj s)/|1-s|^2, truncated
toward zero and saturated to s16. -/
def Obligations.DesignPolesAreTheBilinearImages : Prop :=
  ∀ (c : Config) (t : Nat), c.wellFormed = true →
    let size := c.sinRom.length
    let angle := fun k : Nat => (2 * k + 1) * size / 8
    let sn := fun k : Nat => c.sinRom.getD (angle k) 0
    let cs := fun k : Nat => c.sinRom.getD ((angle k + size / 4) % size) 0
    let wc : Int := c.tanRom.getD t 0
    let sat := fun v : Int => min (max v (-32768)) 32767
    let zRe := fun x y : Int =>
      sat (Int.tdiv ((32768 * 32768 - (x * x + y * y)) * 32768) ((32768 - x) * (32768 - x) + y * y))
    let zIm := fun x y : Int => sat (Int.tdiv (2 * y * 32768 * 32768) ((32768 - x) * (32768 - x) + y * y))
    ∃ j k : Nat, j < k ∧ k < 4 ∧ (∀ n < 4, cs n < 0 ↔ n = j ∨ n = k) ∧
      (designAt c t).wc = c.tanRom.getD t 0 ∧ (designAt c t).tidx = t ∧
      (designAt c t).z1.re = zRe (wc * cs j / 32768) (wc * sn j / 32768) ∧
      (designAt c t).z1.im = zIm (wc * cs j / 32768) (wc * sn j / 32768) ∧
      (designAt c t).z2.re = zRe (wc * cs k / 32768) (wc * sn k / 32768) ∧
      (designAt c t).z2.im = zIm (wc * cs k / 32768) (wc * sn k / 32768)

/-- R89 to R91 with R78 to R81, R87, R88: the denominator of a design is the product of (1 - z1 z^-1) and (1 - z2
z^-1) from 1.0 in Q14, each step floored and saturated, and the numerator is 1, 2, 1 times the corrected scale. -/
def Obligations.DesignCoefficientsFollowFromThePoles : Prop :=
  ∀ (c : Config) (t : Nat),
    let d := designAt c t
    let sat := fun v : Int => min (max v (-32768)) 32767
    let p := sat (-(16384 * d.z1.re) / 32768)
    let q := sat (-(16384 * d.z1.im) / 32768)
    let scale : Int := (d.sumA.natAbs * 65536 / 4 : Nat)
    let corr := scale * c.kCorr / 65536
    d.a0 = 16384 ∧
      d.a1 = sat (p + sat (-(16384 * d.z2.re) / 32768)) ∧
      d.a2 = sat (-(p * d.z2.re - q * d.z2.im) / 32768) ∧
      d.sumA = d.a0 + d.a1 + d.a2 ∧
      d.b0 = sat (corr / 65536) ∧ d.b1 = sat (2 * corr / 65536) ∧ d.b2 = d.b0

/-- R82, R122: with SAMPLE_RATE = 0 DESIGN_FILTER ends with ERR_ARG and changes no register other than STATUS. -/
def Obligations.DesignFilterRejectsZeroSampleRate : Prop :=
  ∀ s : State, s.cfg.wellFormed = true → s.inputs.sampleRate = 0 →
    ∃ t, exec .designFilter s = .next t ∧ t = { s with done := true, err := .arg, fsm := .idle } ∧
      ∀ r, r ≠ .status → regValue r t = regValue r s

/-- R83: a cutoff of 0, or above fdiv(sr, 4), designs the filter of the cutoff fdiv(sr, 4). -/
def Obligations.CutoffOutOfRangeDesignsAtFmax : Prop :=
  ∀ s : State, s.cfg.wellFormed = true → s.inputs.sampleRate ≠ 0 →
    (s.inputs.cutoff = 0 ∨ s.inputs.sampleRate.toNat / 4 < s.inputs.cutoff.toNat) →
    ∃ t u, exec .designFilter s = .next t ∧
      exec .designFilter
        { s with inputs := { s.inputs with cutoff := BitVec.ofNat 32 (s.inputs.sampleRate.toNat / 4) } } =
          .next u ∧
      t.filter = u.filter

/-- R84: the tangent index; after the clamp of R83 the scaled cutoff is at most TAN_SIZE; the min takes effect only at
4*fc = sr; the index is inside the ROM, whose entry is in 0..32767. -/
def Obligations.TangentIndexStaysInTheRom : Prop :=
  ∀ (c : Config) (sr cutoff : Nat), c.wellFormed = true → 1 ≤ sr →
    (∀ fc, tangentIndex c sr fc = min (4 * c.tanSize * fc / sr) (c.tanSize - 1)) ∧
    4 * c.tanSize * clampCutoff sr cutoff / sr ≤ c.tanSize ∧
    tangentIndex c sr (clampCutoff sr cutoff) < c.tanSize ∧
    (tangentIndex c sr (clampCutoff sr cutoff) ≠ 4 * c.tanSize * clampCutoff sr cutoff / sr →
      4 * clampCutoff sr cutoff = sr) ∧
    tanEntry c (tangentIndex c sr (clampCutoff sr cutoff)) ≤ 32767

/-- R85, R86: a well-formed configuration retains exactly two poles, each in the left half plane, so the bilinear
quotient's divisor is at least ONE*ONE. -/
def Obligations.BilinearDivisorIsPositive : Prop :=
  ∀ (c : Config) (wc : Nat), c.wellFormed = true →
    (splanePoles c wc).length = 2 ∧
    ∀ p ∈ splanePoles c wc, p.re ≤ 0 ∧ oneQ15 * oneQ15 ≤ bilinearD p

/-- R94, R95: under the reference configuration the corrected DC gain is within 5% of 1 for the tangent indices
16..255, and the quantized denominator is stable for 2..255. The entries of the ROMs are evaluated from the formulas
of R41 and R42 (log 8, DEDUCED). -/
def Obligations.ReferenceDesignsAreStableWithGainNearOne : Prop :=
  (∀ k : Fin 240, let d := designAt referenceConfig (k.val + 16)
    20 * ((d.b0 + d.b1 + d.b2) * 65536 - 26214 * d.sumA).natAbs ≤ (26214 * d.sumA).natAbs) ∧
  (∀ k : Fin 254, let d := designAt referenceConfig (k.val + 2)
    (d.a2.natAbs : Int) < 16384 ∧ (d.a1.natAbs : Int) < 16384 + d.a2)

/-! ### BUILD_ENV (42_envelope.md) -/

/-- R96 to R100: BUILD_ENV writes all 256 entries, each the first case that holds, times the gain, shifted and clamped
(so for any other gain too), and nothing else but the completion changes. That the RAM is held in a canonical form,
and stays in it, is the model's own choice (log 10). -/
def Obligations.BuildEnvWritesEveryEntry : Prop :=
  ∀ s : State, s.cfg.wellFormed = true → s.envLut.wf = true →
    ∃ m : Memory,
      exec .buildEnv s = .next { s with envLut := m, done := true, err := .none, fsm := .idle } ∧
      m.wf = true ∧
      ∀ i < 256,
        let atk := s.inputs.env.toNat % 256
        let dec := s.inputs.env.toNat / 256 % 256
        let sus := s.inputs.env.toNat / 65536 % 256
        let rel := s.inputs.env.toNat / 16777216
        let raw :=
          if i < atk then i * 255 / atk
          else if i < atk + dec then 255 - (255 - sus) * (i - atk) / dec
          else if i < 255 - rel then sus
          else if 0 < rel then sus * (255 - i) / rel else 0
        raw ≤ 255 ∧ (m.read i).toNat = min (raw * s.inputs.linGain.toNat / 256) s.cfg.envMax ∧
          ∀ g, envEntry s.cfg (envelopeOf s.inputs) g i = min (raw * g / 256) s.cfg.envMax

/-- R101: for every envelope and gain the table is non-decreasing on [0, ae); where de <= se it is non-increasing on
[ae, de) and [se, 256) and constant on [de, se); where de > se it is non-increasing on [ae, 256). -/
def Obligations.EnvelopeKeepsItsShape : Prop :=
  ∀ (c : Config) (e : Envelope) (g : Nat), e.atk ≤ 255 → e.dec ≤ 255 → e.sus ≤ 255 → e.rel ≤ 255 →
    (∀ i j, i ≤ j → j < attackEnd e → envEntry c e g i ≤ envEntry c e g j) ∧
    (decayEnd e ≤ sustainEnd e →
      (∀ i j, attackEnd e ≤ i → i ≤ j → j < decayEnd e → envEntry c e g j ≤ envEntry c e g i) ∧
      (∀ i j, sustainEnd e ≤ i → i ≤ j → j < 256 → envEntry c e g j ≤ envEntry c e g i) ∧
      (∀ i j, decayEnd e ≤ i → i < sustainEnd e → decayEnd e ≤ j → j < sustainEnd e →
        envEntry c e g i = envEntry c e g j)) ∧
    (sustainEnd e < decayEnd e →
      ∀ i j, attackEnd e ≤ i → i ≤ j → j < 256 → envEntry c e g j ≤ envEntry c e g i)

/-! ### DERIVE (43_orchestrator.md) -/

/-- R110, R111 with R102 to R106: DERIVE writes the derivation set, each register its exact value, and nothing else
but the completion changes. -/
def Obligations.DeriveWritesTheDerivationSet : Prop :=
  ∀ s : State, s.cfg.wellFormed = true →
    let d := deriveRegs s.cfg s.inputs
    exec .derive s = .next { s with derived := d, done := true, err := .none, fsm := .idle } ∧
      let sr := s.inputs.sampleRate.toNat
      let raw := (2 * (sr * s.inputs.durationMs.toNat) + 1000) / 2000
      let f1 := max s.inputs.osc1Freq.toNat 1
      let f2 := max s.inputs.osc2Freq.toNat 1
      d.sampleCount.toNat = min (max raw 256) 32767 / 2 * 2 ∧
      d.osc1Period.toNat = max ((2 * sr + f1) / (2 * f1)) 1 ∧
      d.osc2Period.toNat = max ((2 * sr + f2) / (2 * f2)) 1 ∧
      d.osc1Pinv.toNat = (2 * 65536 + d.osc1Period.toNat) / (2 * d.osc1Period.toNat) ∧
      d.osc2Pinv.toNat = (2 * 65536 + d.osc2Period.toNat) / (2 * d.osc2Period.toNat) ∧
      d.envStep.toNat = 16777216 / d.sampleCount.toNat ∧
      d.amp1.toNat = s.cfg.maxAmp * (100 - min s.inputs.mix.toNat 100) / 100 ∧
      d.amp2.toNat = s.cfg.maxAmp - d.amp1.toNat ∧
      d.pbWaves = s.inputs.waves

/-- R102, R106 and the ranges of R103 to R105: for every input the sample count is even and in 256..32766, the periods
are at least 1, the inverses at most 65536, the step in 512..65536, and AMP1 + AMP2 = MAX_AMP. -/
def Obligations.DeriveResultsAreInRange : Prop :=
  ∀ s : State, s.cfg.wellFormed = true →
    ∃ t, exec .derive s = .next t ∧ DerivedInRange s.cfg t.derived

/-! ### SYNTHESIZE and its agents (43_orchestrator.md, 60_exceptions.md) -/

/-- R114, R116, R124: with SAMPLE_RATE = 0 SYNTHESIZE ends with ERR_ARG, asks the allocator nothing and changes no
register other than STATUS. -/
def Obligations.SynthesizeRejectsZeroSampleRate : Prop :=
  ∀ s : State, s.cfg.wellFormed = true → s.inputs.sampleRate = 0 →
    ∃ t, exec .synthesize s = .next t ∧ t = { s with done := true, err := .arg, fsm := .idle } ∧
      ∀ r, r ≠ .status → regValue r t = regValue r s

/-- R114, R129: in another allocation class than BUF_CAP, SYNTHESIZE asks for a buffer of the class's size, a multiple
of 4096 in 4096..32768 that holds the samples, waits with its commit set, and changes no register. -/
def Obligations.SynthesizeRequestsABuffer : Prop :=
  ∀ s : State, s.cfg.wellFormed = true → s.inputs.sampleRate ≠ 0 →
    let sc := sampleCount s.inputs.sampleRate.toNat s.inputs.durationMs.toNat
    let size := (sc + 4095) / 4096 * 4096
    size ≠ s.buffer.cap.toNat →
    exec .synthesize s =
      .next { s with
        outbox := s.outbox ++ [.allocRequest size]
        fsm := .allocWait size (synthCompute s.cfg s.inputs) } ∧
    size % 4096 = 0 ∧ 4096 ≤ size ∧ size ≤ 32768 ∧ sc ≤ size

/-- R115, R117 with R107: in the class of BUF_CAP, SYNTHESIZE makes no request: it commits the derivation, the
converted gain, the envelope under that gain and the filter, keeps the buffer, starts the generation agent on it and
waits. The canonical form of the RAM, before and after, is the model's own choice (log 10). That LIN_GAIN holds the
new gain already in GEN_WAIT is the model's choice between R61 and R115 (log 23). -/
def Obligations.SynthesizeReusesTheBuffer : Prop :=
  ∀ s : State, s.cfg.wellFormed = true → s.inputs.sampleRate ≠ 0 → s.envLut.wf = true →
    allocSize (sampleCount s.inputs.sampleRate.toNat s.inputs.durationMs.toNat) = s.buffer.cap.toNat →
    ∃ (m : Memory) (g : Word),
      exec .synthesize s =
        .next { s with
          derived := deriveRegs s.cfg s.inputs
          inputs := { s.inputs with linGain := g }
          envLut := m
          filter := designRegs (filterDesign s.cfg s.inputs.sampleRate.toNat s.inputs.cutoff.toNat)
          outbox := s.outbox ++ [.genStart s.buffer.handle]
          fsm := .genWait } ∧
      m.wf = true ∧
      g.toNat =
        s.cfg.dbRom.getD
          (min (max s.inputs.gainDb.toInt s.cfg.dbMin) s.cfg.dbMax - s.cfg.dbMin).toNat 0 ∧
      ∀ i < 256, (m.read i).toNat = envEntry s.cfg (envelopeOf s.inputs) g.toNat i

/-- R114, R122: the answer FAIL ends SYNTHESIZE with ERR_ALLOC_FAIL, and no register other than STATUS changes. That
the answer carries the epoch of its request is the model's own (log 15). -/
def Obligations.FailedAllocationChangesOnlyStatus : Prop :=
  ∀ (s : State) (size : Nat) (k : CommitSet) (b : Bool) (rest : List Arrival),
    s.cfg.wellFormed = true → s.fsm = .allocWait size k →
    s.inbox = { event := .allocAnswer s.epoch .fail, runs := b } :: rest →
    ∃ t, step s = .next t ∧
      t = { s with inbox := rest, reply := .none, done := true, err := .allocFail, fsm := .idle } ∧
      ∀ r, r ≠ .status → regValue r t = regValue r s

/-- R114, R115: the answer OK(h), with h not 0 and not live, releases the old buffer if there is one, commits the
whole commit set with the new one, and starts the generation agent on it. The live handles and the epochs are the
model's own (logs 16, 15), and that LIN_GAIN holds the committed gain already in GEN_WAIT is the model's choice
between R61 and R115 (log 23). -/
def Obligations.GrantedBufferIsCommitted : Prop :=
  ∀ (s : State) (size : Nat) (k : CommitSet) (h : Word) (b : Bool) (rest : List Arrival),
    s.cfg.wellFormed = true → s.fsm = .allocWait size k → h ≠ 0 → h ∉ s.live →
    s.inbox = { event := .allocAnswer s.epoch (.ok h), runs := b } :: rest →
    step s =
      .next { s with
        inbox := rest
        reply := .none
        derived := k.derived
        inputs := { s.inputs with linGain := k.gain }
        envLut := s.envLut.storeFrom 0 k.lut
        filter := k.filter
        buffer := { handle := h, cap := BitVec.ofNat 32 size }
        outbox :=
          s.outbox ++ (if s.buffer.handle = 0 then [] else [.allocRelease s.buffer.handle]) ++ [.genStart h]
        live := if s.buffer.handle = 0 then h :: s.live else (h :: s.live).erase s.buffer.handle
        fsm := .genWait }

/-- R115, R121: GenDone in GEN_WAIT completes SYNTHESIZE with ERR_NONE and changes nothing else. That LIN_GAIN does
not change here either, for it holds the gain since the commit, is the model's choice between R61 and R115 (log 23).
The epochs are the model's own (log 15). -/
def Obligations.GenDoneCompletesSynthesize : Prop :=
  ∀ (s : State) (b : Bool) (rest : List Arrival), s.cfg.wellFormed = true → s.fsm = .genWait →
    s.inbox = { event := .genDone s.epoch, runs := b } :: rest →
    step s =
      .next { s with inbox := rest, reply := .none, done := true, err := .none, fsm := .idle }

/-- R136: an AllocAnswer or a GenDone for a request made before a reset is ignored, in every state of the command
state machine. The epochs are the model's own (log 15). That the live handles stay as they are after a late OK(h), so
that h may be granted again, is the model's choice where the spec is silent (log 24). -/
def Obligations.LateAgentAnswersAreIgnored : Prop :=
  ∀ (s : State) (n : Nat) (ans : AllocAnswer), n < s.epoch →
    takeEvent (.allocAnswer n ans) s = .next s ∧ takeEvent (.genDone n) s = .next s

/-- R130, R62: while the state is GEN_WAIT a read of a served register through the generation port gives the committed
value and changes nothing. That the coefficients are B0 to A2 with COEF_FRAC is the model's reading (log 19, DEDUCED).
-/
def Obligations.GenerationPortReadsTheParameterBlock : Prop :=
  ∀ (s : State) (r : Reg), s.fsm = .genWait →
    (r ∈ [Reg.sampleCount, .osc1Pinv, .osc2Pinv, .envStep, .b0, .b1, .b2, .a0, .a1, .a2, .coefFrac,
        .pbWaves, .amp1, .amp2, .osc1Period, .osc2Period] ∨ ∃ i, r = .envLut i) →
    takeEvent (.genRead r) s = .next { s with reply := .genData (regValue r s) }

/-- The model's own choices (logs 16, 17, 19): messages that no agent sends by R129 and R130 stop the machine with a
fault of their own. -/
def Obligations.AgentMessagesOutOfProtocolFault : Prop :=
  (∀ (s : State) (size : Nat) (k : CommitSet) (h : Word), s.fsm = .allocWait size k → (h = 0 ∨ h ∈ s.live) →
    takeEvent (.allocAnswer s.epoch (.ok h)) s = .fault .badAllocHandle) ∧
  (∀ (s : State) (ans : AllocAnswer), (∀ size k, s.fsm ≠ .allocWait size k) →
    takeEvent (.allocAnswer s.epoch ans) s = .fault .unsolicitedAllocAnswer) ∧
  (∀ s : State, s.fsm ≠ .genWait →
    takeEvent (.genDone s.epoch) s = .fault .unsolicitedGenDone ∧
    ∀ r, takeEvent (.genRead r) s = .fault .generationPortRead)

/-- R62, R115: while the generation agent works, no step but a reset changes the parameter block, ENV_LUT, any other
output register or an input register. That LIN_GAIN does not change in the step of GenDone either, for it holds the
gain since the commit, is the model's choice between R61 and R115 (log 23). -/
def Obligations.GenerationFreezesTheParameterBlock : Prop :=
  ∀ s t : State, s.fsm = .genWait → step s = .next t →
    (∀ b, (s.inbox.head?.map Arrival.event) ≠ some (.reset b)) →
    t.derived = s.derived ∧ t.filter = s.filter ∧ t.envLut = s.envLut ∧ t.buffer = s.buffer ∧
      t.noteOut = s.noteOut ∧ t.inputs = s.inputs

/-- R29, R47, R61, R114, R145: until its answer, its GenDone or its own turn comes, a busy block keeps its state with
the pending request, every register but STATUS and CTRL, ENV_LUT, ERR and the messages sent, over every arrival but a
reset: ALLOC_WAIT over all but the answer of this epoch, GEN_WAIT over all but this epoch's GenDone, RUN over an
arrival that does not let the block act. The schedule, the epochs and the live handles are the model's own (logs 2,
15, 16). That the live handles stay as they are over a late OK(h) too is the model's choice where the spec is silent
(log 24). -/
def Obligations.BusyBlockKeepsItsStateUntilItsTurn : Prop :=
  ∀ (s t : State) (e : Event) (b : Bool) (rest : List Arrival),
    s.inbox = { event := e, runs := b } :: rest → (∀ a, e ≠ .reset a) →
    (((∃ size k, s.fsm = .allocWait size k) ∧ ∀ ans, e ≠ .allocAnswer s.epoch ans) ∨
      (s.fsm = .genWait ∧ e ≠ .genDone s.epoch) ∨ ((∃ i, s.fsm = .run i) ∧ b = false)) →
    step s = .next t →
    t.fsm = s.fsm ∧ (∀ r, r ≠ .status → r ≠ .ctrl → regValue r t = regValue r s) ∧ t.inputs = s.inputs ∧
      t.envLut = s.envLut ∧ t.err = s.err ∧ t.outbox = s.outbox ∧ t.live = s.live ∧ t.inbox = rest

/-- R114 to R116, R121: from IDLE, a SYNTHESIZE in a new allocation class, the allocator's OK(h) and GenDone take
three steps, after which the block is IDLE with DONE and ERR_NONE, the buffer is h with the class's size and room for
SAMPLE_COUNT bytes, every output is what the inputs give, and the messages were sent in order. (The schedule, the
canonical RAM, the epochs and the live handles are the model's own, logs 2, 10, 15 and 16.) -/
def Obligations.SynthesisRunsToCompletion : Prop :=
  ∀ (s : State) (h : Word) (b c : Bool) (rest : List Arrival),
    s.cfg.wellFormed = true → s.envLut.wf = true → s.fsm = .idle → s.inputs.sampleRate ≠ 0 →
    allocSize (sampleCountOf s.inputs) ≠ s.buffer.cap.toNat → h ≠ 0 → h ∉ s.live →
    s.inbox =
      { event := .hostWrite 0x00C 32 0x00000005, runs := true } ::
      { event := .allocAnswer s.epoch (.ok h), runs := b } ::
      { event := .genDone s.epoch, runs := c } :: rest →
    ∃ t, Host.Core.run Sys2Proof.core 3 s = .next t ∧
      t.inbox = rest ∧ t.fsm = .idle ∧ t.done = true ∧ t.err = .none ∧ t.ovr = s.ovr ∧ t.ctrlIE = s.ctrlIE ∧
      t.buffer.handle = h ∧ t.buffer.cap.toNat = allocSize (sampleCountOf s.inputs) ∧
      t.derived.sampleCount.toNat = sampleCountOf s.inputs ∧
      t.derived.sampleCount.toNat ≤ t.buffer.cap.toNat ∧
      t.derived = deriveRegs s.cfg s.inputs ∧
      t.inputs = { s.inputs with linGain := t.inputs.linGain } ∧
      t.inputs.linGain.toNat = linGain s.cfg s.inputs.gainDb.toInt ∧
      t.filter = designRegs (filterDesign s.cfg s.inputs.sampleRate.toNat s.inputs.cutoff.toNat) ∧
      (∀ i < 256,
        (t.envLut.read i).toNat = envEntry s.cfg (envelopeOf s.inputs) t.inputs.linGain.toNat i) ∧
      t.noteOut = s.noteOut ∧
      t.outbox =
        s.outbox ++ [.allocRequest (allocSize (sampleCountOf s.inputs))] ++
          (if s.buffer.handle = 0 then [] else [.allocRelease s.buffer.handle]) ++ [.genStart h]

/-- R114, R122: from IDLE, a SYNTHESIZE in a new allocation class and the allocator's FAIL take two steps, after which
the block is IDLE with ERR_ALLOC_FAIL and every register other than STATUS, ENV_LUT among them, reads as before. The
live handles, which stay as they are too, the schedule and the epochs are the model's own (logs 16, 2, 15). -/
def Obligations.FailedSynthesisLeavesEveryRegister : Prop :=
  ∀ (s : State) (b : Bool) (rest : List Arrival),
    s.cfg.wellFormed = true → s.fsm = .idle → s.inputs.sampleRate ≠ 0 →
    allocSize (sampleCountOf s.inputs) ≠ s.buffer.cap.toNat →
    s.inbox =
      { event := .hostWrite 0x00C 32 0x00000005, runs := true } ::
      { event := .allocAnswer s.epoch .fail, runs := b } :: rest →
    ∃ t, Host.Core.run Sys2Proof.core 2 s = .next t ∧
      t.inbox = rest ∧ t.fsm = .idle ∧ t.done = true ∧ t.err = .allocFail ∧ t.ovr = s.ovr ∧
      (∀ r, r ≠ .status → regValue r t = regValue r s) ∧ t.live = s.live ∧
      t.outbox = s.outbox ++ [.allocRequest (allocSize (sampleCountOf s.inputs))]

/-! ### RELEASE (43_orchestrator.md) -/

/-- R118: RELEASE frees the held buffer with one AllocRelease, or none when there is none, clears BUF_HANDLE and
BUF_CAP, and changes nothing else but the completion; BUFV reads 0 afterwards. The live handles, which lose the
released one, are the model's own (log 16). -/
def Obligations.ReleaseFreesTheBuffer : Prop :=
  ∀ s : State, s.cfg.wellFormed = true →
    ∃ t, exec .release s = .next t ∧
      t = { s with
        buffer := { handle := 0, cap := 0 }
        outbox := s.outbox ++ (if s.buffer.handle = 0 then [] else [.allocRelease s.buffer.handle])
        live := if s.buffer.handle = 0 then s.live else s.live.erase s.buffer.handle
        done := true
        err := .none
        fsm := .idle } ∧
      (regValue .status t).getLsbD 8 = false

/-! ### Reset (10_state.md, 70_reset_and_hazards.md) -/

/-- R135: a reset in any state gives every register its reset value, makes the state IDLE with no pending request and
lowers the line; it calls no agent and leaves the construction parameters alone. The two kinds of reset, and that the
messages sent before it stay, are the model's own (logs 18, 14). -/
def Obligations.ResetRestoresEveryRegister : Prop :=
  ∀ (s : State) (a b : Bool) (rest : List Arrival), s.cfg.wellFormed = true →
    s.inbox = { event := .reset a, runs := b } :: rest →
    ∃ t, step s = .next t ∧ (∀ r, regValue r t = resetRegValue s.cfg r) ∧ t.fsm = .idle ∧
      (∀ i, t.envLut.read i = 0) ∧ irq t = false ∧ t.outbox = s.outbox ∧ t.cfg = s.cfg ∧ t.inbox = rest

/-- R138: the reset values, for every choice of the construction parameters, which reset leaves alone; and under the
reference configuration, the one of State.reset. That State.reset carries it is the model's choice (log 6). -/
def Obligations.ResetStateReadsItsTable : Prop :=
  (∀ c : Config, let s := State.resetWith c
    regValue .id s = c.idValue ∧ regValue .clockHz s = c.clockReset ∧ regValue .a0 s = 16384 ∧
      regValue .coefFrac s = 14 ∧
      (∀ r, r ≠ .id → r ≠ .clockHz → r ≠ .a0 → r ≠ .coefFrac → regValue r s = 0) ∧
      s.cfg = c ∧ s.fsm = .idle ∧ irq s = false) ∧
  regValue .id State.reset = 0x42454550 ∧ regValue .clockHz State.reset = 3546895

/-! ### Rules of the whole machine -/

/-- The invariant of the state (R109, R27, R47, R102 to R106, R129 and the canonical form of the RAM) holds right
after reset. The canonical form and the live handles are the model's own (logs 10, 16). -/
def Obligations.InvariantHoldsAtReset : Prop := State.Inv State.reset

/-- Every step from a state with the invariant keeps it: the RAM's canonical form, the buffer invariant of R109, the
ranges of the derivation set, the pending request of R47, a buffer large enough while the generation agent works, DONE
= ERR = 0 while BUSY = 1, and a live handle. The canonical form and the live handles are the model's own (logs 10,
16). -/
def Obligations.EveryStepKeepsTheInvariant : Prop :=
  ∀ s t : State, State.Inv s → step s = .next t → State.Inv t

/-- R122: a command that completes with an error leaves everything but STATUS and the command state machine as it was,
and sends no message. -/
def Obligations.ErrorsCommitNothing : Prop :=
  ∀ (i : Instr) (s t : State), exec i s = .next t → t.fsm = .idle → t.err ≠ .none →
    t = { s with done := true, err := t.err, fsm := .idle }

/-- R68: a command leaves every register it does not write, STATUS apart, as it was; ENV_LUT keeps every entry but
under BUILD_ENV and SYNTHESIZE; OVR, CTRL and what is outside the block do not change. The count of free draws and the
epoch are the model's own (logs 3, 15). -/
def Obligations.CommandsWriteOnlyTheirRegisters : Prop :=
  ∀ (i : Instr) (s t : State), exec i s = .next t →
    (∀ r, r ≠ .status → commandWrites i r = false → regValue r t = regValue r s) ∧
    (i ≠ .buildEnv → i ≠ .synthesize → ∀ a, t.envLut.read a = s.envLut.read a) ∧
    t.ovr = s.ovr ∧ t.ctrlIE = s.ctrlIE ∧ t.cfg = s.cfg ∧ t.inbox = s.inbox ∧ t.reply = s.reply ∧
    t.epoch = s.epoch ∧ t.draws = s.draws

/-- R18: what a command writes is a function of the command, the input registers and the construction parameters
alone: two states that agree on these get the same values, whatever else they hold. (DESIGN_FILTER where it does not
end with ERR_ARG; SYNTHESIZE is covered by its own statements. The canonical RAM is the model's own, log 10.) -/
def Obligations.ResultsDependOnInputsAlone : Prop :=
  ∀ (i : Instr) (s₁ s₂ t₁ t₂ : State), i ≠ .synthesize →
    (i = .designFilter → s₁.inputs.sampleRate ≠ 0) →
    s₁.cfg = s₂.cfg → s₁.inputs = s₂.inputs → s₁.envLut.wf = true → s₂.envLut.wf = true →
    exec i s₁ = .next t₁ → exec i s₂ = .next t₂ →
    ∀ r, commandWrites i r = true → regValue r t₁ = regValue r t₂

/-- R119, R142: a valid handle stops being valid only in a step whose arrival offers SYNTHESIZE or RELEASE to CMD, or
is a reset. -/
def Obligations.HandleStaysValidUntilTheNextSynthesis : Prop :=
  ∀ (s t : State) (h : Word), handleValid h s = true → step s = .next t → handleValid h t = false →
    ∃ (e : Event) (b : Bool) (rest : List Arrival), s.inbox = { event := e, runs := b } :: rest ∧
      ((∃ a, e = .reset a) ∨ e = .hostWrite 0x00C 32 0x00000005 ∨ e = .hostWrite 0x00C 32 0x00000006)

/-- R27, R121: DONE rises only at a completion: the block is IDLE after the step, and it was busy before it or the
arrival was a write to CMD. That one step can accept a command and complete it is the model's choice (log 2). -/
def Obligations.DoneRisesOnlyAtCompletion : Prop :=
  ∀ s t : State, step s = .next t → s.done = false → t.done = true →
    t.fsm = .idle ∧
      (busy s = true ∨ ∃ w b rest, s.inbox = { event := .hostWrite 0x00C 32 w, runs := b } :: rest)

/-- R27: OVR stays 1 until the host writes a 1 to bit 2 of STATUS, or reset. -/
def Obligations.OverrunIsClearedByTheHostOnly : Prop :=
  ∀ s t : State, step s = .next t → s.ovr = true → t.ovr = false →
    ∃ (e : Event) (b : Bool) (rest : List Arrival), s.inbox = { event := e, runs := b } :: rest ∧
      ((∃ a, e = .reset a) ∨ ∃ v : Word, e = .hostWrite 0x008 32 v ∧ v.getLsbD 2 = true)
end

