-- ==== Sys2Proof/Laws/Arith.lean ====
section
/-! SUPPORT. What the arithmetic primitives can answer (00_scope.md R13, R14), and the ranges of the derivation
functions (43_orchestrator.md R102 to R108). -/

namespace Sys2Proof.Machine

/-- Saturation lands in s16. -/
theorem sat16_range (v : Int) : -32768 ≤ sat16 v ∧ sat16 v ≤ 32767 := by
  unfold sat16 clampInt
  omega

/-- Saturation leaves an s16 alone. -/
theorem sat16_of_range {v : Int} (h : -32768 ≤ v ∧ v ≤ 32767) : sat16 v = v := by
  unfold sat16 clampInt
  omega

/-- An s16 result is read back from its field. -/
theorem s16_toInt {v : Int} (h : -32768 ≤ v ∧ v ≤ 32767) : (s16 v).toInt = v := by
  unfold s16
  rw [BitVec.toInt_ofInt]
  exact Int.bmod_eq_of_le (by omega) (by omega)

/-- A saturated result is read back from its field. -/
theorem s16_sat16_toInt (v : Int) : (s16 (sat16 v)).toInt = sat16 v := s16_toInt (sat16_range v)

/-- `round_div` is within half of the exact quotient, and rounds a tie up (00_scope.md R13). -/
theorem roundDiv_spec (n : Nat) {d : Nat} (hd : 0 < d) :
    2 * d * roundDiv n d ≤ 2 * n + d ∧ 2 * n + d < 2 * d * roundDiv n d + 2 * d := by
  unfold roundDiv
  have h1 := Nat.div_add_mod (2 * n + d) (2 * d)
  have h2 := Nat.mod_lt (2 * n + d) (show 0 < 2 * d by omega)
  constructor <;> omega

/-- A rounded quotient is no larger than the dividend. -/
theorem roundDiv_le (n : Nat) {d : Nat} (hd : 0 < d) : roundDiv n d ≤ n := by
  unfold roundDiv
  apply Nat.le_of_lt_succ
  rw [Nat.div_lt_iff_lt_mul (by omega)]
  have : n * 1 ≤ n * d := Nat.mul_le_mul_left n hd
  have e : n.succ * (2 * d) = 2 * (n * d) + 2 * d := by rw [Nat.succ_mul]; ring
  omega

/-- Clearing bit 0 gives the even number at or just below. -/
theorem clearBit0_spec (v : Nat) : clearBit0 v % 2 = 0 ∧ clearBit0 v ≤ v ∧ v ≤ clearBit0 v + 1 := by
  unfold clearBit0
  omega

/-- Clamping lands in the bounds. -/
theorem clampNat_range {lo hi : Nat} (h : lo ≤ hi) (v : Nat) : lo ≤ clampNat v lo hi ∧ clampNat v lo hi ≤ hi := by
  unfold clampNat
  omega

/-- A sample count is even and in 256..32766 (43_orchestrator.md R102). -/
theorem sampleCount_range (sr ms : Nat) :
    sampleCount sr ms % 2 = 0 ∧ 256 ≤ sampleCount sr ms ∧ sampleCount sr ms ≤ 32766 := by
  unfold sampleCount
  have h1 := clampNat_range (show 256 ≤ 32767 by omega) (roundDiv (sr * ms) 1000)
  have h2 := clearBit0_spec (clampNat (roundDiv (sr * ms) 1000) 256 32767)
  omega

/-- An oscillator period is at least 1 and fits its register (43_orchestrator.md R103). -/
theorem oscPeriod_range {sr : Nat} (h : sr < 4294967296) (f : Nat) :
    1 ≤ oscPeriod sr f ∧ oscPeriod sr f < 4294967296 := by
  unfold oscPeriod
  have := roundDiv_le sr (show 0 < max f 1 by omega)
  omega

/-- A period inverse fits 17 bits (43_orchestrator.md R104). -/
theorem periodInverse_range {p : Nat} (h : 1 ≤ p) : periodInverse p ≤ 65536 := roundDiv_le (2 ^ 16) h

/-- The envelope step of a sample count in range is in 512..65536 (43_orchestrator.md R105). -/
theorem envStep_range {sc : Nat} (h : 256 ≤ sc ∧ sc ≤ 32766) : 512 ≤ envStep sc ∧ envStep sc ≤ 65536 := by
  unfold envStep fdiv
  constructor
  · rw [Nat.le_div_iff_mul_le (by omega)]
    omega
  · apply Nat.div_le_of_le_mul
    nlinarith

/-- AMP1 is at most MAX_AMP (43_orchestrator.md R106). -/
theorem mixAmp1_le (c : Config) (mix : Nat) : mixAmp1 c mix ≤ c.maxAmp := by
  unfold mixAmp1 fdiv
  apply Nat.div_le_of_le_mul
  rw [Nat.mul_comm 100]
  exact Nat.mul_le_mul_left _ (by omega)

/-- The mix amplitudes sum to MAX_AMP (43_orchestrator.md R106). -/
theorem mixAmp_sum (c : Config) (mix : Nat) : mixAmp1 c mix + mixAmp2 c mix = c.maxAmp := by
  have := mixAmp1_le c mix
  unfold mixAmp2
  omega

/-- The allocation class of a sample count in range (43_orchestrator.md R108). -/
theorem allocSize_range {sc : Nat} (h : 256 ≤ sc ∧ sc ≤ 32766) :
    allocSize sc % 4096 = 0 ∧ 4096 ≤ allocSize sc ∧ allocSize sc ≤ 32768 ∧ sc ≤ allocSize sc := by
  unfold allocSize fdiv
  omega

/-- FD_TIDX holds the index, saturated to 16 bits (00_scope.md R19). -/
@[simp] theorem tidxField_toNat (n : Nat) : (tidxField n).toNat = min n 65535 := by
  simp only [tidxField, satU, BitVec.toNat_ofNat]
  omega

/-- An envelope entry fits its maximum (42_envelope.md R99). -/
theorem envEntry_le (c : Config) (e : Envelope) (g i : Nat) : envEntry c e g i ≤ c.envMax := by
  unfold envEntry satU
  omega

/-- There are 256 envelope entries (42_envelope.md R100). -/
@[simp] theorem envTable_length (c : Config) (e : Envelope) (g : Nat) : (envTable c e g).length = 256 := by
  simp [envTable]

/-- Entry i of the table, for i in 0..255 (42_envelope.md R100). -/
theorem envTable_getD (c : Config) (e : Envelope) (g : Nat) {i : Nat} (h : i < 256) :
    (envTable c e g).getD i 0 = BitVec.ofNat 16 (envEntry c e g i) := by
  simp [envTable, List.getD_eq_getElem?_getD, h]

end Sys2Proof.Machine
end

