-- ==== Sys2Proof/Laws/Config.lean ====
section
/-! SUPPORT. What a well-formed configuration gives (10_state.md R45), and the offsets of the envelope entries. -/

namespace Sys2Proof.Machine

/-- The checks of a well-formed configuration, as propositions (10_state.md R45, R41 to R44). -/
theorem wellFormed_parts {c : Config} (h : c.wellFormed = true) :
    (0 < c.sinSize ∧ c.sinSize % 8 = 0) ∧ (retainedPoles c).length = 2 ∧
      (1 ≤ c.tanSize ∧ ∀ v ∈ c.tanRom, v ≤ 32767) ∧
      (c.periodRom.length = 3 ∧
        ∀ row ∈ c.periodRom, row.length = 12 ∧ ∀ v ∈ row, 1 ≤ v ∧ v ≤ 65535) ∧
      (c.dbMin ≤ c.dbMax ∧ -32768 ≤ c.dbMin ∧ c.dbMax ≤ 32767 ∧
        (c.dbRom.length : Int) = c.dbMax - c.dbMin + 1 ∧ ∀ v ∈ c.dbRom, v ≤ 4294967295) ∧
      c.kCorr ≤ 65535 ∧ c.maxAmp ≤ 65535 ∧ c.envMax ≤ 65535 ∧
      ∀ v ∈ c.sinRom, -32768 ≤ v ∧ v ≤ 32767 := by
  simp only [Config.wellFormed, Config.checkSinSize, Config.checkPoles, Config.checkTan,
    Config.checkPeriod, Config.checkDb, Config.checkKCorr, Config.checkMaxAmp, Config.checkEnvMax,
    Config.checkSinEntries, Bool.and_eq_true, decide_eq_true_eq, List.all_eq_true] at h
  tauto

/-- A ROM entry inside the ROM is one of its contents. -/
theorem getD_mem_of_lt {α : Type} {l : List α} {k : Nat} {d : α} (h : k < l.length) : l.getD k d ∈ l := by
  rw [List.getD_eq_getElem _ _ h]
  exact List.getElem_mem h

/-- The offset of an envelope entry (10_state.md R24). -/
@[simp] theorem regOffset_envLut (i : Fin 256) : regOffset (.envLut i) = 0x400 + 4 * i.val := rfl

end Sys2Proof.Machine
end

