-- ==== Sys2Proof/Laws/Memory.lean ====
section
/-! SUPPORT. The ENV_LUT RAM: reads after writes, and the canonical form that every operation keeps. -/

namespace Sys2Proof.Machine

/-- A canonical list from `lo` on is canonical from any smaller bound on. -/
theorem cellsWf_mono {lo lo' : Nat} (h : lo' ≤ lo) :
    ∀ {l : List (Nat × Half)}, cellsWf lo l = true → cellsWf lo' l = true
  | [], _ => rfl
  | (a, w) :: rest, hw => by
    simp only [cellsWf, Bool.and_eq_true, decide_eq_true_eq] at hw ⊢
    exact ⟨⟨⟨by omega, hw.1.1.2⟩, hw.1.2⟩, hw.2⟩

/-- An index below a canonical list's bound is unlisted. -/
theorem lookupCell_below {i lo : Nat} (h : i < lo) :
    ∀ {l : List (Nat × Half)}, cellsWf lo l = true → lookupCell i l = unlistedEntry
  | [], _ => rfl
  | (a, w) :: rest, hw => by
    simp only [cellsWf, Bool.and_eq_true, decide_eq_true_eq] at hw
    have hne : a ≠ i := by omega
    simp only [lookupCell, hne, if_false]
    exact lookupCell_below (lo := a + 1) (by omega) hw.2

/-- Insertion keeps the canonical form. -/
theorem cellsWf_insertCell {i : Nat} {v : Half} (hi : i < 256) (hv : v ≠ unlistedEntry) :
    ∀ {lo : Nat} {l : List (Nat × Half)}, lo ≤ i → cellsWf lo l = true →
      cellsWf lo (insertCell i v l) = true
  | lo, [], hlo, _ => by simp [insertCell, cellsWf, hlo, hi, hv]
  | lo, (a, w) :: rest, hlo, hw => by
    simp only [cellsWf, Bool.and_eq_true, decide_eq_true_eq] at hw
    unfold insertCell
    split_ifs with h1 h2
    · simp only [cellsWf, Bool.and_eq_true, decide_eq_true_eq]
      exact ⟨⟨⟨hlo, hi⟩, hv⟩, ⟨⟨by omega, hw.1.1.2⟩, hw.1.2⟩, hw.2⟩
    · subst h2
      simp only [cellsWf, Bool.and_eq_true, decide_eq_true_eq]
      exact ⟨⟨⟨hlo, hi⟩, hv⟩, hw.2⟩
    · simp only [cellsWf, Bool.and_eq_true, decide_eq_true_eq]
      exact ⟨⟨⟨hw.1.1.1, hw.1.1.2⟩, hw.1.2⟩, cellsWf_insertCell hi hv (by omega) hw.2⟩

/-- Removal keeps the canonical form. -/
theorem cellsWf_removeCell {i : Nat} :
    ∀ {lo : Nat} {l : List (Nat × Half)}, cellsWf lo l = true → cellsWf lo (removeCell i l) = true
  | _, [], _ => rfl
  | lo, (a, w) :: rest, hw => by
    have hw' := hw
    simp only [cellsWf, Bool.and_eq_true, decide_eq_true_eq] at hw
    unfold removeCell
    split_ifs with h1
    · exact cellsWf_mono (by omega) hw.2
    · simp only [cellsWf, Bool.and_eq_true, decide_eq_true_eq]
      exact ⟨⟨⟨hw.1.1.1, hw.1.1.2⟩, hw.1.2⟩, cellsWf_removeCell hw.2⟩

/-- An inserted entry is read back, and no other entry changes. -/
theorem lookupCell_insertCell (i j : Nat) (v : Half) :
    ∀ l : List (Nat × Half), lookupCell j (insertCell i v l) = if i = j then v else lookupCell j l
  | [] => by simp [insertCell, lookupCell]
  | (a, w) :: rest => by
    have ih := lookupCell_insertCell i j v rest
    unfold insertCell
    by_cases h1 : i < a
    · simp only [h1, if_true, lookupCell]
    · by_cases h2 : i = a
      · subst h2
        by_cases h : i = j <;> simp [lookupCell, h]
      · simp only [h1, h2, if_false, lookupCell, ih]
        by_cases h : i = j
        · have : ¬ a = j := fun e => h2 (h.trans e.symm)
          simp [h, this]
        · simp [h]

/-- A removed entry reads as unlisted in a canonical list, and no other entry changes. -/
theorem lookupCell_removeCell (i j : Nat) :
    ∀ {lo : Nat} {l : List (Nat × Half)}, cellsWf lo l = true →
      lookupCell j (removeCell i l) = if j = i then unlistedEntry else lookupCell j l
  | _, [], _ => by simp [removeCell, lookupCell]
  | lo, (a, w) :: rest, hw => by
    simp only [cellsWf, Bool.and_eq_true, decide_eq_true_eq] at hw
    unfold removeCell
    by_cases h1 : a = i
    · subst h1
      simp only [if_true, lookupCell]
      by_cases h : j = a
      · subst h
        rw [if_pos rfl]
        exact lookupCell_below (Nat.lt_succ_self j) hw.2
      · have h' : ¬ a = j := fun e => h e.symm
        simp [h, h']
    · simp only [h1, if_false, lookupCell]
      rw [lookupCell_removeCell i j hw.2]
      by_cases h : j = i
      · subst h
        simp [h1]
      · simp [h]

/-- A write keeps the canonical form. -/
theorem Memory.wf_write {m : Memory} (h : m.wf = true) (i : Nat) (v : Half) : (m.write i v).wf = true := by
  unfold Memory.write
  split_ifs with hi hv
  · exact cellsWf_removeCell h
  · exact cellsWf_insertCell hi hv (Nat.zero_le _) h
  · exact h

/-- A write to an entry 0..255 is read back, and every other entry is unchanged; a write anywhere else changes
nothing. -/
theorem Memory.read_write {m : Memory} (h : m.wf = true) (i j : Nat) (v : Half) :
    (m.write i v).read j = if i < 256 ∧ j = i then v else m.read j := by
  unfold Memory.write Memory.read
  by_cases hi : i < 256
  · simp only [hi, if_true, true_and]
    by_cases hv : v = unlistedEntry
    · simp only [hv, if_true]
      exact lookupCell_removeCell i j h
    · simp only [hv, if_false, lookupCell_insertCell, eq_comm]
  · simp [hi]

/-- A run of writes keeps the canonical form. -/
theorem Memory.wf_storeFrom {m : Memory} (h : m.wf = true) :
    ∀ (t : List Half) (i : Nat), (m.storeFrom i t).wf = true
  | [], _ => h
  | _ :: t, i => Memory.wf_write (Memory.wf_storeFrom h t (i + 1)) i _

/-- After a run of writes from entry `i` on, an entry of the run reads the value written there, and every other
entry is unchanged. -/
theorem Memory.read_storeFrom {m : Memory} (h : m.wf = true) :
    ∀ (t : List Half) (i j : Nat), (m.storeFrom i t).read j =
      if i ≤ j ∧ j < i + t.length ∧ j < 256 then t.getD (j - i) 0 else m.read j
  | [], i, j => by
    have : ¬ (i ≤ j ∧ j < i + 0 ∧ j < 256) := by omega
    simp [Memory.storeFrom]
    intro _ _; omega
  | v :: t, i, j => by
    have ih := Memory.read_storeFrom h t (i + 1) j
    rw [Memory.storeFrom, Memory.read_write (Memory.wf_storeFrom h t (i + 1)), ih]
    by_cases hj : j = i
    · subst hj
      by_cases h256 : j < 256
      · simp [h256]
      · have h1 : ¬ (j + 1 ≤ j ∧ j < j + 1 + t.length ∧ j < 256) := by omega
        have h2 : ¬ (j ≤ j ∧ j < j + (v :: t).length ∧ j < 256) := by omega
        have h3 : ¬ (j < 256 ∧ j = j) := by omega
        rw [if_neg h1, if_neg h2, if_neg h3]
    · have h3 : ¬ (i < 256 ∧ j = i) := fun e => hj e.2
      rw [if_neg h3]
      by_cases h1 : i + 1 ≤ j ∧ j < i + 1 + t.length ∧ j < 256
      · have h2 : i ≤ j ∧ j < i + (v :: t).length ∧ j < 256 := by
          simp only [List.length_cons]; omega
        rw [if_pos h1, if_pos h2]
        obtain ⟨k, rfl⟩ : ∃ k, j = i + 1 + k := ⟨j - (i + 1), by omega⟩
        have e1 : i + 1 + k - (i + 1) = k := by omega
        have e2 : i + 1 + k - i = k + 1 := by omega
        rw [e1, e2, List.getD_cons_succ]
      · have h2 : ¬ (i ≤ j ∧ j < i + (v :: t).length ∧ j < 256) := by
          simp only [List.length_cons]; omega
        rw [if_neg h1, if_neg h2]

end Sys2Proof.Machine
end

