-- ==== Sys2Proof/Laws/PerInstr.lean ====
section
/-! SUPPORT. Statements made per command: its encoded word has RSVD = 0 and an opcode of the map
(30_encoding.md R65, R67). -/

namespace Sys2Proof.Laws.EncodedWord

/-- The encoded word of a command is its opcode: RSVD, bits 31:4, is 0, and OP, bits 3:0, is the opcode, which
is below 0x7; the command is well-formed. -/
def Statement (i : Instr) : Prop :=
  i.wellFormed = true ∧ rsvdField (encode i) = 0 ∧ opField (encode i) = opOf i ∧ opOf i < 7

theorem nop : Statement .nop := by unfold Statement; decide
theorem resolveNote : Statement .resolveNote := by unfold Statement; decide
theorem designFilter : Statement .designFilter := by unfold Statement; decide
theorem buildEnv : Statement .buildEnv := by unfold Statement; decide
theorem derive : Statement .derive := by unfold Statement; decide
theorem synthesize : Statement .synthesize := by unfold Statement; decide
theorem release : Statement .release := by unfold Statement; decide

end Sys2Proof.Laws.EncodedWord
end

