-- ==== Sys2Proof/Laws/State.lean ====
section
/-! SUPPORT. Every field after every named update of the state, one lemma each, so that no proof unfolds a
record update. -/

namespace Sys2Proof.Machine

/-! ### accept -/

@[simp] theorem accept_cfg (i : Instr) (s : State) : (accept i s).cfg = s.cfg := rfl
@[simp] theorem accept_ctrlIE (i : Instr) (s : State) : (accept i s).ctrlIE = s.ctrlIE := rfl
@[simp] theorem accept_done (i : Instr) (s : State) : (accept i s).done = false := rfl
@[simp] theorem accept_ovr (i : Instr) (s : State) : (accept i s).ovr = s.ovr := rfl
@[simp] theorem accept_err (i : Instr) (s : State) : (accept i s).err = .none := rfl
@[simp] theorem accept_inputs (i : Instr) (s : State) : (accept i s).inputs = s.inputs := rfl
@[simp] theorem accept_noteOut (i : Instr) (s : State) : (accept i s).noteOut = s.noteOut := rfl
@[simp] theorem accept_buffer (i : Instr) (s : State) : (accept i s).buffer = s.buffer := rfl
@[simp] theorem accept_derived (i : Instr) (s : State) : (accept i s).derived = s.derived := rfl
@[simp] theorem accept_filter (i : Instr) (s : State) : (accept i s).filter = s.filter := rfl
@[simp] theorem accept_envLut (i : Instr) (s : State) : (accept i s).envLut = s.envLut := rfl
@[simp] theorem accept_fsm (i : Instr) (s : State) : (accept i s).fsm = .run i := rfl
@[simp] theorem accept_inbox (i : Instr) (s : State) : (accept i s).inbox = s.inbox := rfl
@[simp] theorem accept_reply (i : Instr) (s : State) : (accept i s).reply = s.reply := rfl
@[simp] theorem accept_outbox (i : Instr) (s : State) : (accept i s).outbox = s.outbox := rfl
@[simp] theorem accept_live (i : Instr) (s : State) : (accept i s).live = s.live := rfl
@[simp] theorem accept_epoch (i : Instr) (s : State) : (accept i s).epoch = s.epoch := rfl
@[simp] theorem accept_draws (i : Instr) (s : State) : (accept i s).draws = s.draws := rfl

/-! ### complete -/

@[simp] theorem complete_cfg (e : ErrCode) (s : State) : (complete e s).cfg = s.cfg := rfl
@[simp] theorem complete_ctrlIE (e : ErrCode) (s : State) : (complete e s).ctrlIE = s.ctrlIE := rfl
@[simp] theorem complete_done (e : ErrCode) (s : State) : (complete e s).done = true := rfl
@[simp] theorem complete_ovr (e : ErrCode) (s : State) : (complete e s).ovr = s.ovr := rfl
@[simp] theorem complete_err (e : ErrCode) (s : State) : (complete e s).err = e := rfl
@[simp] theorem complete_inputs (e : ErrCode) (s : State) : (complete e s).inputs = s.inputs := rfl
@[simp] theorem complete_noteOut (e : ErrCode) (s : State) : (complete e s).noteOut = s.noteOut := rfl
@[simp] theorem complete_buffer (e : ErrCode) (s : State) : (complete e s).buffer = s.buffer := rfl
@[simp] theorem complete_derived (e : ErrCode) (s : State) : (complete e s).derived = s.derived := rfl
@[simp] theorem complete_filter (e : ErrCode) (s : State) : (complete e s).filter = s.filter := rfl
@[simp] theorem complete_envLut (e : ErrCode) (s : State) : (complete e s).envLut = s.envLut := rfl
@[simp] theorem complete_fsm (e : ErrCode) (s : State) : (complete e s).fsm = .idle := rfl
@[simp] theorem complete_inbox (e : ErrCode) (s : State) : (complete e s).inbox = s.inbox := rfl
@[simp] theorem complete_reply (e : ErrCode) (s : State) : (complete e s).reply = s.reply := rfl
@[simp] theorem complete_outbox (e : ErrCode) (s : State) : (complete e s).outbox = s.outbox := rfl
@[simp] theorem complete_live (e : ErrCode) (s : State) : (complete e s).live = s.live := rfl
@[simp] theorem complete_epoch (e : ErrCode) (s : State) : (complete e s).epoch = s.epoch := rfl
@[simp] theorem complete_draws (e : ErrCode) (s : State) : (complete e s).draws = s.draws := rfl

/-! ### raiseError -/

@[simp] theorem raiseError_cfg (e : ErrCode) (s : State) : (raiseError e s).cfg = s.cfg := rfl
@[simp] theorem raiseError_ctrlIE (e : ErrCode) (s : State) : (raiseError e s).ctrlIE = s.ctrlIE := rfl
@[simp] theorem raiseError_done (e : ErrCode) (s : State) : (raiseError e s).done = true := rfl
@[simp] theorem raiseError_ovr (e : ErrCode) (s : State) : (raiseError e s).ovr = s.ovr := rfl
@[simp] theorem raiseError_err (e : ErrCode) (s : State) : (raiseError e s).err = e := rfl
@[simp] theorem raiseError_inputs (e : ErrCode) (s : State) : (raiseError e s).inputs = s.inputs := rfl
@[simp] theorem raiseError_noteOut (e : ErrCode) (s : State) : (raiseError e s).noteOut = s.noteOut := rfl
@[simp] theorem raiseError_buffer (e : ErrCode) (s : State) : (raiseError e s).buffer = s.buffer := rfl
@[simp] theorem raiseError_derived (e : ErrCode) (s : State) : (raiseError e s).derived = s.derived := rfl
@[simp] theorem raiseError_filter (e : ErrCode) (s : State) : (raiseError e s).filter = s.filter := rfl
@[simp] theorem raiseError_envLut (e : ErrCode) (s : State) : (raiseError e s).envLut = s.envLut := rfl
@[simp] theorem raiseError_fsm (e : ErrCode) (s : State) : (raiseError e s).fsm = .idle := rfl
@[simp] theorem raiseError_inbox (e : ErrCode) (s : State) : (raiseError e s).inbox = s.inbox := rfl
@[simp] theorem raiseError_reply (e : ErrCode) (s : State) : (raiseError e s).reply = s.reply := rfl
@[simp] theorem raiseError_outbox (e : ErrCode) (s : State) : (raiseError e s).outbox = s.outbox := rfl
@[simp] theorem raiseError_live (e : ErrCode) (s : State) : (raiseError e s).live = s.live := rfl
@[simp] theorem raiseError_epoch (e : ErrCode) (s : State) : (raiseError e s).epoch = s.epoch := rfl
@[simp] theorem raiseError_draws (e : ErrCode) (s : State) : (raiseError e s).draws = s.draws := rfl

/-! ### rejectIllegal -/

@[simp] theorem rejectIllegal_cfg (s : State) : (rejectIllegal s).cfg = s.cfg := rfl
@[simp] theorem rejectIllegal_ctrlIE (s : State) : (rejectIllegal s).ctrlIE = s.ctrlIE := rfl
@[simp] theorem rejectIllegal_done (s : State) : (rejectIllegal s).done = true := rfl
@[simp] theorem rejectIllegal_ovr (s : State) : (rejectIllegal s).ovr = s.ovr := rfl
@[simp] theorem rejectIllegal_err (s : State) : (rejectIllegal s).err = .illegal := rfl
@[simp] theorem rejectIllegal_inputs (s : State) : (rejectIllegal s).inputs = s.inputs := rfl
@[simp] theorem rejectIllegal_noteOut (s : State) : (rejectIllegal s).noteOut = s.noteOut := rfl
@[simp] theorem rejectIllegal_buffer (s : State) : (rejectIllegal s).buffer = s.buffer := rfl
@[simp] theorem rejectIllegal_derived (s : State) : (rejectIllegal s).derived = s.derived := rfl
@[simp] theorem rejectIllegal_filter (s : State) : (rejectIllegal s).filter = s.filter := rfl
@[simp] theorem rejectIllegal_envLut (s : State) : (rejectIllegal s).envLut = s.envLut := rfl
@[simp] theorem rejectIllegal_fsm (s : State) : (rejectIllegal s).fsm = .idle := rfl
@[simp] theorem rejectIllegal_inbox (s : State) : (rejectIllegal s).inbox = s.inbox := rfl
@[simp] theorem rejectIllegal_reply (s : State) : (rejectIllegal s).reply = s.reply := rfl
@[simp] theorem rejectIllegal_outbox (s : State) : (rejectIllegal s).outbox = s.outbox := rfl
@[simp] theorem rejectIllegal_live (s : State) : (rejectIllegal s).live = s.live := rfl
@[simp] theorem rejectIllegal_epoch (s : State) : (rejectIllegal s).epoch = s.epoch := rfl
@[simp] theorem rejectIllegal_draws (s : State) : (rejectIllegal s).draws = s.draws := rfl

/-! ### issue -/

@[simp] theorem issue_cfg (m : PortMessage) (s : State) : (issue m s).cfg = s.cfg := rfl
@[simp] theorem issue_ctrlIE (m : PortMessage) (s : State) : (issue m s).ctrlIE = s.ctrlIE := rfl
@[simp] theorem issue_done (m : PortMessage) (s : State) : (issue m s).done = s.done := rfl
@[simp] theorem issue_ovr (m : PortMessage) (s : State) : (issue m s).ovr = s.ovr := rfl
@[simp] theorem issue_err (m : PortMessage) (s : State) : (issue m s).err = s.err := rfl
@[simp] theorem issue_inputs (m : PortMessage) (s : State) : (issue m s).inputs = s.inputs := rfl
@[simp] theorem issue_noteOut (m : PortMessage) (s : State) : (issue m s).noteOut = s.noteOut := rfl
@[simp] theorem issue_buffer (m : PortMessage) (s : State) : (issue m s).buffer = s.buffer := rfl
@[simp] theorem issue_derived (m : PortMessage) (s : State) : (issue m s).derived = s.derived := rfl
@[simp] theorem issue_filter (m : PortMessage) (s : State) : (issue m s).filter = s.filter := rfl
@[simp] theorem issue_envLut (m : PortMessage) (s : State) : (issue m s).envLut = s.envLut := rfl
@[simp] theorem issue_fsm (m : PortMessage) (s : State) : (issue m s).fsm = s.fsm := rfl
@[simp] theorem issue_inbox (m : PortMessage) (s : State) : (issue m s).inbox = s.inbox := rfl
@[simp] theorem issue_reply (m : PortMessage) (s : State) : (issue m s).reply = s.reply := rfl
@[simp] theorem issue_outbox (m : PortMessage) (s : State) : (issue m s).outbox = s.outbox ++ [m] := rfl
@[simp] theorem issue_live (m : PortMessage) (s : State) : (issue m s).live = s.live := rfl
@[simp] theorem issue_epoch (m : PortMessage) (s : State) : (issue m s).epoch = s.epoch := rfl
@[simp] theorem issue_draws (m : PortMessage) (s : State) : (issue m s).draws = s.draws := rfl

/-! ### releaseHandle -/

@[simp] theorem releaseHandle_cfg (h : Word) (s : State) : (releaseHandle h s).cfg = s.cfg := rfl
@[simp] theorem releaseHandle_ctrlIE (h : Word) (s : State) : (releaseHandle h s).ctrlIE = s.ctrlIE := rfl
@[simp] theorem releaseHandle_done (h : Word) (s : State) : (releaseHandle h s).done = s.done := rfl
@[simp] theorem releaseHandle_ovr (h : Word) (s : State) : (releaseHandle h s).ovr = s.ovr := rfl
@[simp] theorem releaseHandle_err (h : Word) (s : State) : (releaseHandle h s).err = s.err := rfl
@[simp] theorem releaseHandle_inputs (h : Word) (s : State) : (releaseHandle h s).inputs = s.inputs := rfl
@[simp] theorem releaseHandle_noteOut (h : Word) (s : State) : (releaseHandle h s).noteOut = s.noteOut := rfl
@[simp] theorem releaseHandle_buffer (h : Word) (s : State) : (releaseHandle h s).buffer = s.buffer := rfl
@[simp] theorem releaseHandle_derived (h : Word) (s : State) : (releaseHandle h s).derived = s.derived := rfl
@[simp] theorem releaseHandle_filter (h : Word) (s : State) : (releaseHandle h s).filter = s.filter := rfl
@[simp] theorem releaseHandle_envLut (h : Word) (s : State) : (releaseHandle h s).envLut = s.envLut := rfl
@[simp] theorem releaseHandle_fsm (h : Word) (s : State) : (releaseHandle h s).fsm = s.fsm := rfl
@[simp] theorem releaseHandle_inbox (h : Word) (s : State) : (releaseHandle h s).inbox = s.inbox := rfl
@[simp] theorem releaseHandle_reply (h : Word) (s : State) : (releaseHandle h s).reply = s.reply := rfl
@[simp] theorem releaseHandle_outbox (h : Word) (s : State) : (releaseHandle h s).outbox = s.outbox ++ [.allocRelease h] := rfl
@[simp] theorem releaseHandle_live (h : Word) (s : State) : (releaseHandle h s).live = s.live.erase h := rfl
@[simp] theorem releaseHandle_epoch (h : Word) (s : State) : (releaseHandle h s).epoch = s.epoch := rfl
@[simp] theorem releaseHandle_draws (h : Word) (s : State) : (releaseHandle h s).draws = s.draws := rfl

/-! ### grantHandle -/

@[simp] theorem grantHandle_cfg (h : Word) (s : State) : (grantHandle h s).cfg = s.cfg := rfl
@[simp] theorem grantHandle_ctrlIE (h : Word) (s : State) : (grantHandle h s).ctrlIE = s.ctrlIE := rfl
@[simp] theorem grantHandle_done (h : Word) (s : State) : (grantHandle h s).done = s.done := rfl
@[simp] theorem grantHandle_ovr (h : Word) (s : State) : (grantHandle h s).ovr = s.ovr := rfl
@[simp] theorem grantHandle_err (h : Word) (s : State) : (grantHandle h s).err = s.err := rfl
@[simp] theorem grantHandle_inputs (h : Word) (s : State) : (grantHandle h s).inputs = s.inputs := rfl
@[simp] theorem grantHandle_noteOut (h : Word) (s : State) : (grantHandle h s).noteOut = s.noteOut := rfl
@[simp] theorem grantHandle_buffer (h : Word) (s : State) : (grantHandle h s).buffer = s.buffer := rfl
@[simp] theorem grantHandle_derived (h : Word) (s : State) : (grantHandle h s).derived = s.derived := rfl
@[simp] theorem grantHandle_filter (h : Word) (s : State) : (grantHandle h s).filter = s.filter := rfl
@[simp] theorem grantHandle_envLut (h : Word) (s : State) : (grantHandle h s).envLut = s.envLut := rfl
@[simp] theorem grantHandle_fsm (h : Word) (s : State) : (grantHandle h s).fsm = s.fsm := rfl
@[simp] theorem grantHandle_inbox (h : Word) (s : State) : (grantHandle h s).inbox = s.inbox := rfl
@[simp] theorem grantHandle_reply (h : Word) (s : State) : (grantHandle h s).reply = s.reply := rfl
@[simp] theorem grantHandle_outbox (h : Word) (s : State) : (grantHandle h s).outbox = s.outbox := rfl
@[simp] theorem grantHandle_live (h : Word) (s : State) : (grantHandle h s).live = h :: s.live := rfl
@[simp] theorem grantHandle_epoch (h : Word) (s : State) : (grantHandle h s).epoch = s.epoch := rfl
@[simp] theorem grantHandle_draws (h : Word) (s : State) : (grantHandle h s).draws = s.draws := rfl

/-! ### commitNote -/

@[simp] theorem commitNote_cfg (n : NoteRegs) (s : State) : (commitNote n s).cfg = s.cfg := rfl
@[simp] theorem commitNote_ctrlIE (n : NoteRegs) (s : State) : (commitNote n s).ctrlIE = s.ctrlIE := rfl
@[simp] theorem commitNote_done (n : NoteRegs) (s : State) : (commitNote n s).done = s.done := rfl
@[simp] theorem commitNote_ovr (n : NoteRegs) (s : State) : (commitNote n s).ovr = s.ovr := rfl
@[simp] theorem commitNote_err (n : NoteRegs) (s : State) : (commitNote n s).err = s.err := rfl
@[simp] theorem commitNote_inputs (n : NoteRegs) (s : State) : (commitNote n s).inputs = s.inputs := rfl
@[simp] theorem commitNote_noteOut (n : NoteRegs) (s : State) : (commitNote n s).noteOut = n := rfl
@[simp] theorem commitNote_buffer (n : NoteRegs) (s : State) : (commitNote n s).buffer = s.buffer := rfl
@[simp] theorem commitNote_derived (n : NoteRegs) (s : State) : (commitNote n s).derived = s.derived := rfl
@[simp] theorem commitNote_filter (n : NoteRegs) (s : State) : (commitNote n s).filter = s.filter := rfl
@[simp] theorem commitNote_envLut (n : NoteRegs) (s : State) : (commitNote n s).envLut = s.envLut := rfl
@[simp] theorem commitNote_fsm (n : NoteRegs) (s : State) : (commitNote n s).fsm = s.fsm := rfl
@[simp] theorem commitNote_inbox (n : NoteRegs) (s : State) : (commitNote n s).inbox = s.inbox := rfl
@[simp] theorem commitNote_reply (n : NoteRegs) (s : State) : (commitNote n s).reply = s.reply := rfl
@[simp] theorem commitNote_outbox (n : NoteRegs) (s : State) : (commitNote n s).outbox = s.outbox := rfl
@[simp] theorem commitNote_live (n : NoteRegs) (s : State) : (commitNote n s).live = s.live := rfl
@[simp] theorem commitNote_epoch (n : NoteRegs) (s : State) : (commitNote n s).epoch = s.epoch := rfl
@[simp] theorem commitNote_draws (n : NoteRegs) (s : State) : (commitNote n s).draws = s.draws := rfl

/-! ### commitFilter -/

@[simp] theorem commitFilter_cfg (f : FilterRegs) (s : State) : (commitFilter f s).cfg = s.cfg := rfl
@[simp] theorem commitFilter_ctrlIE (f : FilterRegs) (s : State) : (commitFilter f s).ctrlIE = s.ctrlIE := rfl
@[simp] theorem commitFilter_done (f : FilterRegs) (s : State) : (commitFilter f s).done = s.done := rfl
@[simp] theorem commitFilter_ovr (f : FilterRegs) (s : State) : (commitFilter f s).ovr = s.ovr := rfl
@[simp] theorem commitFilter_err (f : FilterRegs) (s : State) : (commitFilter f s).err = s.err := rfl
@[simp] theorem commitFilter_inputs (f : FilterRegs) (s : State) : (commitFilter f s).inputs = s.inputs := rfl
@[simp] theorem commitFilter_noteOut (f : FilterRegs) (s : State) : (commitFilter f s).noteOut = s.noteOut := rfl
@[simp] theorem commitFilter_buffer (f : FilterRegs) (s : State) : (commitFilter f s).buffer = s.buffer := rfl
@[simp] theorem commitFilter_derived (f : FilterRegs) (s : State) : (commitFilter f s).derived = s.derived := rfl
@[simp] theorem commitFilter_filter (f : FilterRegs) (s : State) : (commitFilter f s).filter = f := rfl
@[simp] theorem commitFilter_envLut (f : FilterRegs) (s : State) : (commitFilter f s).envLut = s.envLut := rfl
@[simp] theorem commitFilter_fsm (f : FilterRegs) (s : State) : (commitFilter f s).fsm = s.fsm := rfl
@[simp] theorem commitFilter_inbox (f : FilterRegs) (s : State) : (commitFilter f s).inbox = s.inbox := rfl
@[simp] theorem commitFilter_reply (f : FilterRegs) (s : State) : (commitFilter f s).reply = s.reply := rfl
@[simp] theorem commitFilter_outbox (f : FilterRegs) (s : State) : (commitFilter f s).outbox = s.outbox := rfl
@[simp] theorem commitFilter_live (f : FilterRegs) (s : State) : (commitFilter f s).live = s.live := rfl
@[simp] theorem commitFilter_epoch (f : FilterRegs) (s : State) : (commitFilter f s).epoch = s.epoch := rfl
@[simp] theorem commitFilter_draws (f : FilterRegs) (s : State) : (commitFilter f s).draws = s.draws := rfl

/-! ### commitEnv -/

@[simp] theorem commitEnv_cfg (t : List Half) (s : State) : (commitEnv t s).cfg = s.cfg := rfl
@[simp] theorem commitEnv_ctrlIE (t : List Half) (s : State) : (commitEnv t s).ctrlIE = s.ctrlIE := rfl
@[simp] theorem commitEnv_done (t : List Half) (s : State) : (commitEnv t s).done = s.done := rfl
@[simp] theorem commitEnv_ovr (t : List Half) (s : State) : (commitEnv t s).ovr = s.ovr := rfl
@[simp] theorem commitEnv_err (t : List Half) (s : State) : (commitEnv t s).err = s.err := rfl
@[simp] theorem commitEnv_inputs (t : List Half) (s : State) : (commitEnv t s).inputs = s.inputs := rfl
@[simp] theorem commitEnv_noteOut (t : List Half) (s : State) : (commitEnv t s).noteOut = s.noteOut := rfl
@[simp] theorem commitEnv_buffer (t : List Half) (s : State) : (commitEnv t s).buffer = s.buffer := rfl
@[simp] theorem commitEnv_derived (t : List Half) (s : State) : (commitEnv t s).derived = s.derived := rfl
@[simp] theorem commitEnv_filter (t : List Half) (s : State) : (commitEnv t s).filter = s.filter := rfl
@[simp] theorem commitEnv_envLut (t : List Half) (s : State) : (commitEnv t s).envLut = s.envLut.storeFrom 0 t := rfl
@[simp] theorem commitEnv_fsm (t : List Half) (s : State) : (commitEnv t s).fsm = s.fsm := rfl
@[simp] theorem commitEnv_inbox (t : List Half) (s : State) : (commitEnv t s).inbox = s.inbox := rfl
@[simp] theorem commitEnv_reply (t : List Half) (s : State) : (commitEnv t s).reply = s.reply := rfl
@[simp] theorem commitEnv_outbox (t : List Half) (s : State) : (commitEnv t s).outbox = s.outbox := rfl
@[simp] theorem commitEnv_live (t : List Half) (s : State) : (commitEnv t s).live = s.live := rfl
@[simp] theorem commitEnv_epoch (t : List Half) (s : State) : (commitEnv t s).epoch = s.epoch := rfl
@[simp] theorem commitEnv_draws (t : List Half) (s : State) : (commitEnv t s).draws = s.draws := rfl

/-! ### commitDerived -/

@[simp] theorem commitDerived_cfg (d : DerivedRegs) (s : State) : (commitDerived d s).cfg = s.cfg := rfl
@[simp] theorem commitDerived_ctrlIE (d : DerivedRegs) (s : State) : (commitDerived d s).ctrlIE = s.ctrlIE := rfl
@[simp] theorem commitDerived_done (d : DerivedRegs) (s : State) : (commitDerived d s).done = s.done := rfl
@[simp] theorem commitDerived_ovr (d : DerivedRegs) (s : State) : (commitDerived d s).ovr = s.ovr := rfl
@[simp] theorem commitDerived_err (d : DerivedRegs) (s : State) : (commitDerived d s).err = s.err := rfl
@[simp] theorem commitDerived_inputs (d : DerivedRegs) (s : State) : (commitDerived d s).inputs = s.inputs := rfl
@[simp] theorem commitDerived_noteOut (d : DerivedRegs) (s : State) : (commitDerived d s).noteOut = s.noteOut := rfl
@[simp] theorem commitDerived_buffer (d : DerivedRegs) (s : State) : (commitDerived d s).buffer = s.buffer := rfl
@[simp] theorem commitDerived_derived (d : DerivedRegs) (s : State) : (commitDerived d s).derived = d := rfl
@[simp] theorem commitDerived_filter (d : DerivedRegs) (s : State) : (commitDerived d s).filter = s.filter := rfl
@[simp] theorem commitDerived_envLut (d : DerivedRegs) (s : State) : (commitDerived d s).envLut = s.envLut := rfl
@[simp] theorem commitDerived_fsm (d : DerivedRegs) (s : State) : (commitDerived d s).fsm = s.fsm := rfl
@[simp] theorem commitDerived_inbox (d : DerivedRegs) (s : State) : (commitDerived d s).inbox = s.inbox := rfl
@[simp] theorem commitDerived_reply (d : DerivedRegs) (s : State) : (commitDerived d s).reply = s.reply := rfl
@[simp] theorem commitDerived_outbox (d : DerivedRegs) (s : State) : (commitDerived d s).outbox = s.outbox := rfl
@[simp] theorem commitDerived_live (d : DerivedRegs) (s : State) : (commitDerived d s).live = s.live := rfl
@[simp] theorem commitDerived_epoch (d : DerivedRegs) (s : State) : (commitDerived d s).epoch = s.epoch := rfl
@[simp] theorem commitDerived_draws (d : DerivedRegs) (s : State) : (commitDerived d s).draws = s.draws := rfl

/-! ### commitBuffer -/

@[simp] theorem commitBuffer_cfg (b : BufferRegs) (s : State) : (commitBuffer b s).cfg = s.cfg := rfl
@[simp] theorem commitBuffer_ctrlIE (b : BufferRegs) (s : State) : (commitBuffer b s).ctrlIE = s.ctrlIE := rfl
@[simp] theorem commitBuffer_done (b : BufferRegs) (s : State) : (commitBuffer b s).done = s.done := rfl
@[simp] theorem commitBuffer_ovr (b : BufferRegs) (s : State) : (commitBuffer b s).ovr = s.ovr := rfl
@[simp] theorem commitBuffer_err (b : BufferRegs) (s : State) : (commitBuffer b s).err = s.err := rfl
@[simp] theorem commitBuffer_inputs (b : BufferRegs) (s : State) : (commitBuffer b s).inputs = s.inputs := rfl
@[simp] theorem commitBuffer_noteOut (b : BufferRegs) (s : State) : (commitBuffer b s).noteOut = s.noteOut := rfl
@[simp] theorem commitBuffer_buffer (b : BufferRegs) (s : State) : (commitBuffer b s).buffer = b := rfl
@[simp] theorem commitBuffer_derived (b : BufferRegs) (s : State) : (commitBuffer b s).derived = s.derived := rfl
@[simp] theorem commitBuffer_filter (b : BufferRegs) (s : State) : (commitBuffer b s).filter = s.filter := rfl
@[simp] theorem commitBuffer_envLut (b : BufferRegs) (s : State) : (commitBuffer b s).envLut = s.envLut := rfl
@[simp] theorem commitBuffer_fsm (b : BufferRegs) (s : State) : (commitBuffer b s).fsm = s.fsm := rfl
@[simp] theorem commitBuffer_inbox (b : BufferRegs) (s : State) : (commitBuffer b s).inbox = s.inbox := rfl
@[simp] theorem commitBuffer_reply (b : BufferRegs) (s : State) : (commitBuffer b s).reply = s.reply := rfl
@[simp] theorem commitBuffer_outbox (b : BufferRegs) (s : State) : (commitBuffer b s).outbox = s.outbox := rfl
@[simp] theorem commitBuffer_live (b : BufferRegs) (s : State) : (commitBuffer b s).live = s.live := rfl
@[simp] theorem commitBuffer_epoch (b : BufferRegs) (s : State) : (commitBuffer b s).epoch = s.epoch := rfl
@[simp] theorem commitBuffer_draws (b : BufferRegs) (s : State) : (commitBuffer b s).draws = s.draws := rfl

/-! ### commitGain -/

@[simp] theorem commitGain_cfg (g : Word) (s : State) : (commitGain g s).cfg = s.cfg := rfl
@[simp] theorem commitGain_ctrlIE (g : Word) (s : State) : (commitGain g s).ctrlIE = s.ctrlIE := rfl
@[simp] theorem commitGain_done (g : Word) (s : State) : (commitGain g s).done = s.done := rfl
@[simp] theorem commitGain_ovr (g : Word) (s : State) : (commitGain g s).ovr = s.ovr := rfl
@[simp] theorem commitGain_err (g : Word) (s : State) : (commitGain g s).err = s.err := rfl
@[simp] theorem commitGain_inputs (g : Word) (s : State) : (commitGain g s).inputs = { s.inputs with linGain := g } := rfl
@[simp] theorem commitGain_noteOut (g : Word) (s : State) : (commitGain g s).noteOut = s.noteOut := rfl
@[simp] theorem commitGain_buffer (g : Word) (s : State) : (commitGain g s).buffer = s.buffer := rfl
@[simp] theorem commitGain_derived (g : Word) (s : State) : (commitGain g s).derived = s.derived := rfl
@[simp] theorem commitGain_filter (g : Word) (s : State) : (commitGain g s).filter = s.filter := rfl
@[simp] theorem commitGain_envLut (g : Word) (s : State) : (commitGain g s).envLut = s.envLut := rfl
@[simp] theorem commitGain_fsm (g : Word) (s : State) : (commitGain g s).fsm = s.fsm := rfl
@[simp] theorem commitGain_inbox (g : Word) (s : State) : (commitGain g s).inbox = s.inbox := rfl
@[simp] theorem commitGain_reply (g : Word) (s : State) : (commitGain g s).reply = s.reply := rfl
@[simp] theorem commitGain_outbox (g : Word) (s : State) : (commitGain g s).outbox = s.outbox := rfl
@[simp] theorem commitGain_live (g : Word) (s : State) : (commitGain g s).live = s.live := rfl
@[simp] theorem commitGain_epoch (g : Word) (s : State) : (commitGain g s).epoch = s.epoch := rfl
@[simp] theorem commitGain_draws (g : Word) (s : State) : (commitGain g s).draws = s.draws := rfl

/-! ### enter -/

@[simp] theorem enter_cfg (f : Fsm) (s : State) : (enter f s).cfg = s.cfg := rfl
@[simp] theorem enter_ctrlIE (f : Fsm) (s : State) : (enter f s).ctrlIE = s.ctrlIE := rfl
@[simp] theorem enter_done (f : Fsm) (s : State) : (enter f s).done = s.done := rfl
@[simp] theorem enter_ovr (f : Fsm) (s : State) : (enter f s).ovr = s.ovr := rfl
@[simp] theorem enter_err (f : Fsm) (s : State) : (enter f s).err = s.err := rfl
@[simp] theorem enter_inputs (f : Fsm) (s : State) : (enter f s).inputs = s.inputs := rfl
@[simp] theorem enter_noteOut (f : Fsm) (s : State) : (enter f s).noteOut = s.noteOut := rfl
@[simp] theorem enter_buffer (f : Fsm) (s : State) : (enter f s).buffer = s.buffer := rfl
@[simp] theorem enter_derived (f : Fsm) (s : State) : (enter f s).derived = s.derived := rfl
@[simp] theorem enter_filter (f : Fsm) (s : State) : (enter f s).filter = s.filter := rfl
@[simp] theorem enter_envLut (f : Fsm) (s : State) : (enter f s).envLut = s.envLut := rfl
@[simp] theorem enter_fsm (f : Fsm) (s : State) : (enter f s).fsm = f := rfl
@[simp] theorem enter_inbox (f : Fsm) (s : State) : (enter f s).inbox = s.inbox := rfl
@[simp] theorem enter_reply (f : Fsm) (s : State) : (enter f s).reply = s.reply := rfl
@[simp] theorem enter_outbox (f : Fsm) (s : State) : (enter f s).outbox = s.outbox := rfl
@[simp] theorem enter_live (f : Fsm) (s : State) : (enter f s).live = s.live := rfl
@[simp] theorem enter_epoch (f : Fsm) (s : State) : (enter f s).epoch = s.epoch := rfl
@[simp] theorem enter_draws (f : Fsm) (s : State) : (enter f s).draws = s.draws := rfl

/-! ### setReply -/

@[simp] theorem setReply_cfg (r : Reply) (s : State) : (setReply r s).cfg = s.cfg := rfl
@[simp] theorem setReply_ctrlIE (r : Reply) (s : State) : (setReply r s).ctrlIE = s.ctrlIE := rfl
@[simp] theorem setReply_done (r : Reply) (s : State) : (setReply r s).done = s.done := rfl
@[simp] theorem setReply_ovr (r : Reply) (s : State) : (setReply r s).ovr = s.ovr := rfl
@[simp] theorem setReply_err (r : Reply) (s : State) : (setReply r s).err = s.err := rfl
@[simp] theorem setReply_inputs (r : Reply) (s : State) : (setReply r s).inputs = s.inputs := rfl
@[simp] theorem setReply_noteOut (r : Reply) (s : State) : (setReply r s).noteOut = s.noteOut := rfl
@[simp] theorem setReply_buffer (r : Reply) (s : State) : (setReply r s).buffer = s.buffer := rfl
@[simp] theorem setReply_derived (r : Reply) (s : State) : (setReply r s).derived = s.derived := rfl
@[simp] theorem setReply_filter (r : Reply) (s : State) : (setReply r s).filter = s.filter := rfl
@[simp] theorem setReply_envLut (r : Reply) (s : State) : (setReply r s).envLut = s.envLut := rfl
@[simp] theorem setReply_fsm (r : Reply) (s : State) : (setReply r s).fsm = s.fsm := rfl
@[simp] theorem setReply_inbox (r : Reply) (s : State) : (setReply r s).inbox = s.inbox := rfl
@[simp] theorem setReply_reply (r : Reply) (s : State) : (setReply r s).reply = r := rfl
@[simp] theorem setReply_outbox (r : Reply) (s : State) : (setReply r s).outbox = s.outbox := rfl
@[simp] theorem setReply_live (r : Reply) (s : State) : (setReply r s).live = s.live := rfl
@[simp] theorem setReply_epoch (r : Reply) (s : State) : (setReply r s).epoch = s.epoch := rfl
@[simp] theorem setReply_draws (r : Reply) (s : State) : (setReply r s).draws = s.draws := rfl

/-! ### setOverrun -/

@[simp] theorem setOverrun_cfg (s : State) : (setOverrun s).cfg = s.cfg := rfl
@[simp] theorem setOverrun_ctrlIE (s : State) : (setOverrun s).ctrlIE = s.ctrlIE := rfl
@[simp] theorem setOverrun_done (s : State) : (setOverrun s).done = s.done := rfl
@[simp] theorem setOverrun_ovr (s : State) : (setOverrun s).ovr = true := rfl
@[simp] theorem setOverrun_err (s : State) : (setOverrun s).err = s.err := rfl
@[simp] theorem setOverrun_inputs (s : State) : (setOverrun s).inputs = s.inputs := rfl
@[simp] theorem setOverrun_noteOut (s : State) : (setOverrun s).noteOut = s.noteOut := rfl
@[simp] theorem setOverrun_buffer (s : State) : (setOverrun s).buffer = s.buffer := rfl
@[simp] theorem setOverrun_derived (s : State) : (setOverrun s).derived = s.derived := rfl
@[simp] theorem setOverrun_filter (s : State) : (setOverrun s).filter = s.filter := rfl
@[simp] theorem setOverrun_envLut (s : State) : (setOverrun s).envLut = s.envLut := rfl
@[simp] theorem setOverrun_fsm (s : State) : (setOverrun s).fsm = s.fsm := rfl
@[simp] theorem setOverrun_inbox (s : State) : (setOverrun s).inbox = s.inbox := rfl
@[simp] theorem setOverrun_reply (s : State) : (setOverrun s).reply = s.reply := rfl
@[simp] theorem setOverrun_outbox (s : State) : (setOverrun s).outbox = s.outbox := rfl
@[simp] theorem setOverrun_live (s : State) : (setOverrun s).live = s.live := rfl
@[simp] theorem setOverrun_epoch (s : State) : (setOverrun s).epoch = s.epoch := rfl
@[simp] theorem setOverrun_draws (s : State) : (setOverrun s).draws = s.draws := rfl

/-! ### writeCtrl -/

@[simp] theorem writeCtrl_cfg (v : Word) (s : State) : (writeCtrl v s).cfg = s.cfg := rfl
@[simp] theorem writeCtrl_ctrlIE (v : Word) (s : State) : (writeCtrl v s).ctrlIE = v.getLsbD 0 := rfl
@[simp] theorem writeCtrl_done (v : Word) (s : State) : (writeCtrl v s).done = s.done := rfl
@[simp] theorem writeCtrl_ovr (v : Word) (s : State) : (writeCtrl v s).ovr = s.ovr := rfl
@[simp] theorem writeCtrl_err (v : Word) (s : State) : (writeCtrl v s).err = s.err := rfl
@[simp] theorem writeCtrl_inputs (v : Word) (s : State) : (writeCtrl v s).inputs = s.inputs := rfl
@[simp] theorem writeCtrl_noteOut (v : Word) (s : State) : (writeCtrl v s).noteOut = s.noteOut := rfl
@[simp] theorem writeCtrl_buffer (v : Word) (s : State) : (writeCtrl v s).buffer = s.buffer := rfl
@[simp] theorem writeCtrl_derived (v : Word) (s : State) : (writeCtrl v s).derived = s.derived := rfl
@[simp] theorem writeCtrl_filter (v : Word) (s : State) : (writeCtrl v s).filter = s.filter := rfl
@[simp] theorem writeCtrl_envLut (v : Word) (s : State) : (writeCtrl v s).envLut = s.envLut := rfl
@[simp] theorem writeCtrl_fsm (v : Word) (s : State) : (writeCtrl v s).fsm = s.fsm := rfl
@[simp] theorem writeCtrl_inbox (v : Word) (s : State) : (writeCtrl v s).inbox = s.inbox := rfl
@[simp] theorem writeCtrl_reply (v : Word) (s : State) : (writeCtrl v s).reply = s.reply := rfl
@[simp] theorem writeCtrl_outbox (v : Word) (s : State) : (writeCtrl v s).outbox = s.outbox := rfl
@[simp] theorem writeCtrl_live (v : Word) (s : State) : (writeCtrl v s).live = s.live := rfl
@[simp] theorem writeCtrl_epoch (v : Word) (s : State) : (writeCtrl v s).epoch = s.epoch := rfl
@[simp] theorem writeCtrl_draws (v : Word) (s : State) : (writeCtrl v s).draws = s.draws := rfl

/-! ### writeStatus -/

@[simp] theorem writeStatus_cfg (v : Word) (s : State) : (writeStatus v s).cfg = s.cfg := rfl
@[simp] theorem writeStatus_ctrlIE (v : Word) (s : State) : (writeStatus v s).ctrlIE = s.ctrlIE := rfl
@[simp] theorem writeStatus_done (v : Word) (s : State) : (writeStatus v s).done = (s.done && !v.getLsbD 1) := rfl
@[simp] theorem writeStatus_ovr (v : Word) (s : State) : (writeStatus v s).ovr = (s.ovr && !v.getLsbD 2) := rfl
@[simp] theorem writeStatus_err (v : Word) (s : State) : (writeStatus v s).err = s.err := rfl
@[simp] theorem writeStatus_inputs (v : Word) (s : State) : (writeStatus v s).inputs = s.inputs := rfl
@[simp] theorem writeStatus_noteOut (v : Word) (s : State) : (writeStatus v s).noteOut = s.noteOut := rfl
@[simp] theorem writeStatus_buffer (v : Word) (s : State) : (writeStatus v s).buffer = s.buffer := rfl
@[simp] theorem writeStatus_derived (v : Word) (s : State) : (writeStatus v s).derived = s.derived := rfl
@[simp] theorem writeStatus_filter (v : Word) (s : State) : (writeStatus v s).filter = s.filter := rfl
@[simp] theorem writeStatus_envLut (v : Word) (s : State) : (writeStatus v s).envLut = s.envLut := rfl
@[simp] theorem writeStatus_fsm (v : Word) (s : State) : (writeStatus v s).fsm = s.fsm := rfl
@[simp] theorem writeStatus_inbox (v : Word) (s : State) : (writeStatus v s).inbox = s.inbox := rfl
@[simp] theorem writeStatus_reply (v : Word) (s : State) : (writeStatus v s).reply = s.reply := rfl
@[simp] theorem writeStatus_outbox (v : Word) (s : State) : (writeStatus v s).outbox = s.outbox := rfl
@[simp] theorem writeStatus_live (v : Word) (s : State) : (writeStatus v s).live = s.live := rfl
@[simp] theorem writeStatus_epoch (v : Word) (s : State) : (writeStatus v s).epoch = s.epoch := rfl
@[simp] theorem writeStatus_draws (v : Word) (s : State) : (writeStatus v s).draws = s.draws := rfl

/-! ### synthCommit -/

@[simp] theorem synthCommit_cfg (k : CommitSet) (b : BufferRegs) (s : State) : (synthCommit k b s).cfg = s.cfg := by
  simp [synthCommit]
@[simp] theorem synthCommit_ctrlIE (k : CommitSet) (b : BufferRegs) (s : State) : (synthCommit k b s).ctrlIE = s.ctrlIE := by
  simp [synthCommit]
@[simp] theorem synthCommit_done (k : CommitSet) (b : BufferRegs) (s : State) : (synthCommit k b s).done = s.done := by
  simp [synthCommit]
@[simp] theorem synthCommit_ovr (k : CommitSet) (b : BufferRegs) (s : State) : (synthCommit k b s).ovr = s.ovr := by
  simp [synthCommit]
@[simp] theorem synthCommit_err (k : CommitSet) (b : BufferRegs) (s : State) : (synthCommit k b s).err = s.err := by
  simp [synthCommit]
@[simp] theorem synthCommit_inputs (k : CommitSet) (b : BufferRegs) (s : State) : (synthCommit k b s).inputs = { s.inputs with linGain := k.gain } := by
  simp [synthCommit]
@[simp] theorem synthCommit_noteOut (k : CommitSet) (b : BufferRegs) (s : State) : (synthCommit k b s).noteOut = s.noteOut := by
  simp [synthCommit]
@[simp] theorem synthCommit_buffer (k : CommitSet) (b : BufferRegs) (s : State) : (synthCommit k b s).buffer = b := by
  simp [synthCommit]
@[simp] theorem synthCommit_derived (k : CommitSet) (b : BufferRegs) (s : State) : (synthCommit k b s).derived = k.derived := by
  simp [synthCommit]
@[simp] theorem synthCommit_filter (k : CommitSet) (b : BufferRegs) (s : State) : (synthCommit k b s).filter = k.filter := by
  simp [synthCommit]
@[simp] theorem synthCommit_envLut (k : CommitSet) (b : BufferRegs) (s : State) : (synthCommit k b s).envLut = s.envLut.storeFrom 0 k.lut := by
  simp [synthCommit]
@[simp] theorem synthCommit_fsm (k : CommitSet) (b : BufferRegs) (s : State) : (synthCommit k b s).fsm = .genWait := by
  simp [synthCommit]
@[simp] theorem synthCommit_inbox (k : CommitSet) (b : BufferRegs) (s : State) : (synthCommit k b s).inbox = s.inbox := by
  simp [synthCommit]
@[simp] theorem synthCommit_reply (k : CommitSet) (b : BufferRegs) (s : State) : (synthCommit k b s).reply = s.reply := by
  simp [synthCommit]
@[simp] theorem synthCommit_outbox (k : CommitSet) (b : BufferRegs) (s : State) : (synthCommit k b s).outbox = s.outbox ++ [.genStart b.handle] := by
  simp [synthCommit]
@[simp] theorem synthCommit_live (k : CommitSet) (b : BufferRegs) (s : State) : (synthCommit k b s).live = s.live := by
  simp [synthCommit]
@[simp] theorem synthCommit_epoch (k : CommitSet) (b : BufferRegs) (s : State) : (synthCommit k b s).epoch = s.epoch := by
  simp [synthCommit]
@[simp] theorem synthCommit_draws (k : CommitSet) (b : BufferRegs) (s : State) : (synthCommit k b s).draws = s.draws := by
  simp [synthCommit]

/-! ### requestBuffer -/

@[simp] theorem requestBuffer_cfg (n : Nat) (k : CommitSet) (s : State) : (requestBuffer n k s).cfg = s.cfg := rfl
@[simp] theorem requestBuffer_ctrlIE (n : Nat) (k : CommitSet) (s : State) : (requestBuffer n k s).ctrlIE = s.ctrlIE := rfl
@[simp] theorem requestBuffer_done (n : Nat) (k : CommitSet) (s : State) : (requestBuffer n k s).done = s.done := rfl
@[simp] theorem requestBuffer_ovr (n : Nat) (k : CommitSet) (s : State) : (requestBuffer n k s).ovr = s.ovr := rfl
@[simp] theorem requestBuffer_err (n : Nat) (k : CommitSet) (s : State) : (requestBuffer n k s).err = s.err := rfl
@[simp] theorem requestBuffer_inputs (n : Nat) (k : CommitSet) (s : State) : (requestBuffer n k s).inputs = s.inputs := rfl
@[simp] theorem requestBuffer_noteOut (n : Nat) (k : CommitSet) (s : State) : (requestBuffer n k s).noteOut = s.noteOut := rfl
@[simp] theorem requestBuffer_buffer (n : Nat) (k : CommitSet) (s : State) : (requestBuffer n k s).buffer = s.buffer := rfl
@[simp] theorem requestBuffer_derived (n : Nat) (k : CommitSet) (s : State) : (requestBuffer n k s).derived = s.derived := rfl
@[simp] theorem requestBuffer_filter (n : Nat) (k : CommitSet) (s : State) : (requestBuffer n k s).filter = s.filter := rfl
@[simp] theorem requestBuffer_envLut (n : Nat) (k : CommitSet) (s : State) : (requestBuffer n k s).envLut = s.envLut := rfl
@[simp] theorem requestBuffer_fsm (n : Nat) (k : CommitSet) (s : State) : (requestBuffer n k s).fsm = .allocWait n k := rfl
@[simp] theorem requestBuffer_inbox (n : Nat) (k : CommitSet) (s : State) : (requestBuffer n k s).inbox = s.inbox := rfl
@[simp] theorem requestBuffer_reply (n : Nat) (k : CommitSet) (s : State) : (requestBuffer n k s).reply = s.reply := rfl
@[simp] theorem requestBuffer_outbox (n : Nat) (k : CommitSet) (s : State) : (requestBuffer n k s).outbox = s.outbox ++ [.allocRequest n] := rfl
@[simp] theorem requestBuffer_live (n : Nat) (k : CommitSet) (s : State) : (requestBuffer n k s).live = s.live := rfl
@[simp] theorem requestBuffer_epoch (n : Nat) (k : CommitSet) (s : State) : (requestBuffer n k s).epoch = s.epoch := rfl
@[simp] theorem requestBuffer_draws (n : Nat) (k : CommitSet) (s : State) : (requestBuffer n k s).draws = s.draws := rfl

/-! ### resetBlock -/

@[simp] theorem resetBlock_cfg (a : Bool) (s : State) : (resetBlock a s).cfg = s.cfg := rfl
@[simp] theorem resetBlock_ctrlIE (a : Bool) (s : State) : (resetBlock a s).ctrlIE = false := rfl
@[simp] theorem resetBlock_done (a : Bool) (s : State) : (resetBlock a s).done = false := rfl
@[simp] theorem resetBlock_ovr (a : Bool) (s : State) : (resetBlock a s).ovr = false := rfl
@[simp] theorem resetBlock_err (a : Bool) (s : State) : (resetBlock a s).err = .none := rfl
@[simp] theorem resetBlock_inputs (a : Bool) (s : State) : (resetBlock a s).inputs = resetInputs s.cfg := rfl
@[simp] theorem resetBlock_noteOut (a : Bool) (s : State) : (resetBlock a s).noteOut = resetNote := rfl
@[simp] theorem resetBlock_buffer (a : Bool) (s : State) : (resetBlock a s).buffer = noBuffer := rfl
@[simp] theorem resetBlock_derived (a : Bool) (s : State) : (resetBlock a s).derived = resetDerived := rfl
@[simp] theorem resetBlock_filter (a : Bool) (s : State) : (resetBlock a s).filter = resetFilter := rfl
@[simp] theorem resetBlock_envLut (a : Bool) (s : State) : (resetBlock a s).envLut = { cells := [] } := rfl
@[simp] theorem resetBlock_fsm (a : Bool) (s : State) : (resetBlock a s).fsm = .idle := rfl
@[simp] theorem resetBlock_inbox (a : Bool) (s : State) : (resetBlock a s).inbox = s.inbox := rfl
@[simp] theorem resetBlock_reply (a : Bool) (s : State) : (resetBlock a s).reply = .none := rfl
@[simp] theorem resetBlock_outbox (a : Bool) (s : State) : (resetBlock a s).outbox = s.outbox := rfl
@[simp] theorem resetBlock_live (a : Bool) (s : State) : (resetBlock a s).live = (if a then [] else s.live) := rfl
@[simp] theorem resetBlock_epoch (a : Bool) (s : State) : (resetBlock a s).epoch = s.epoch + 1 := rfl
@[simp] theorem resetBlock_draws (a : Bool) (s : State) : (resetBlock a s).draws = s.draws := rfl

/-! ### releaseHeld: the handle held, if any, is released, and no register changes -/

/-- What `releaseHeld` can do: nothing when no handle is held, else one release. -/
theorem releaseHeld_cases (s : State) :
    (s.buffer.handle = 0 ∧ releaseHeld s = s) ∨
      (s.buffer.handle ≠ 0 ∧ releaseHeld s = releaseHandle s.buffer.handle s) := by
  unfold releaseHeld
  by_cases h : s.buffer.handle = 0
  · exact .inl ⟨h, if_neg (fun hn => hn h)⟩
  · exact .inr ⟨h, if_pos h⟩

@[simp] theorem releaseHeld_cfg (s : State) : (releaseHeld s).cfg = s.cfg := by
  rcases releaseHeld_cases s with ⟨-, h⟩ | ⟨-, h⟩ <;> simp [h]
@[simp] theorem releaseHeld_ctrlIE (s : State) : (releaseHeld s).ctrlIE = s.ctrlIE := by
  rcases releaseHeld_cases s with ⟨-, h⟩ | ⟨-, h⟩ <;> simp [h]
@[simp] theorem releaseHeld_done (s : State) : (releaseHeld s).done = s.done := by
  rcases releaseHeld_cases s with ⟨-, h⟩ | ⟨-, h⟩ <;> simp [h]
@[simp] theorem releaseHeld_ovr (s : State) : (releaseHeld s).ovr = s.ovr := by
  rcases releaseHeld_cases s with ⟨-, h⟩ | ⟨-, h⟩ <;> simp [h]
@[simp] theorem releaseHeld_err (s : State) : (releaseHeld s).err = s.err := by
  rcases releaseHeld_cases s with ⟨-, h⟩ | ⟨-, h⟩ <;> simp [h]
@[simp] theorem releaseHeld_inputs (s : State) : (releaseHeld s).inputs = s.inputs := by
  rcases releaseHeld_cases s with ⟨-, h⟩ | ⟨-, h⟩ <;> simp [h]
@[simp] theorem releaseHeld_noteOut (s : State) : (releaseHeld s).noteOut = s.noteOut := by
  rcases releaseHeld_cases s with ⟨-, h⟩ | ⟨-, h⟩ <;> simp [h]
@[simp] theorem releaseHeld_buffer (s : State) : (releaseHeld s).buffer = s.buffer := by
  rcases releaseHeld_cases s with ⟨-, h⟩ | ⟨-, h⟩ <;> simp [h]
@[simp] theorem releaseHeld_derived (s : State) : (releaseHeld s).derived = s.derived := by
  rcases releaseHeld_cases s with ⟨-, h⟩ | ⟨-, h⟩ <;> simp [h]
@[simp] theorem releaseHeld_filter (s : State) : (releaseHeld s).filter = s.filter := by
  rcases releaseHeld_cases s with ⟨-, h⟩ | ⟨-, h⟩ <;> simp [h]
@[simp] theorem releaseHeld_envLut (s : State) : (releaseHeld s).envLut = s.envLut := by
  rcases releaseHeld_cases s with ⟨-, h⟩ | ⟨-, h⟩ <;> simp [h]
@[simp] theorem releaseHeld_fsm (s : State) : (releaseHeld s).fsm = s.fsm := by
  rcases releaseHeld_cases s with ⟨-, h⟩ | ⟨-, h⟩ <;> simp [h]
@[simp] theorem releaseHeld_inbox (s : State) : (releaseHeld s).inbox = s.inbox := by
  rcases releaseHeld_cases s with ⟨-, h⟩ | ⟨-, h⟩ <;> simp [h]
@[simp] theorem releaseHeld_reply (s : State) : (releaseHeld s).reply = s.reply := by
  rcases releaseHeld_cases s with ⟨-, h⟩ | ⟨-, h⟩ <;> simp [h]
@[simp] theorem releaseHeld_epoch (s : State) : (releaseHeld s).epoch = s.epoch := by
  rcases releaseHeld_cases s with ⟨-, h⟩ | ⟨-, h⟩ <;> simp [h]
@[simp] theorem releaseHeld_draws (s : State) : (releaseHeld s).draws = s.draws := by
  rcases releaseHeld_cases s with ⟨-, h⟩ | ⟨-, h⟩ <;> simp [h]

/-! ### BUSY is a view of the command state machine -/

/-- STATUS.BUSY = 0 exactly in IDLE (10_state.md R46). -/
theorem busy_eq_false_iff (s : State) : busy s = false ↔ s.fsm = .idle := by
  unfold busy
  cases h : s.fsm <;> simp

/-- BUSY depends on the command state machine alone. -/
theorem busy_congr {s t : State} (h : t.fsm = s.fsm) : busy t = busy s := by
  unfold busy
  rw [h]

/-- A completed command leaves BUSY = 0. -/
@[simp] theorem busy_complete (e : ErrCode) (s : State) : busy (complete e s) = false := rfl

/-- An accepted command leaves BUSY = 1. -/
@[simp] theorem busy_accept (i : Instr) (s : State) : busy (accept i s) = true := rfl

end Sys2Proof.Machine
end

