-- ==== Sys2Proof/Laws/Step.lean ====
section
/-! SUPPORT. What each shared operation, and a step, can do: one inversion lemma each ("if it answers next t,
then one of these cases holds"). -/

namespace Sys2Proof.Machine

/-- A guarded outcome that is a next state comes from a well-formed configuration. -/
theorem guarded_eq_next {s t : State} {k : Host.Outcome State Fault Refusal} (h : guarded s k = .next t) :
    s.cfg.wellFormed = true ∧ k = .next t := by
  unfold guarded at h
  split at h
  · exact ⟨‹_›, h⟩
  · cases h

/-- Under a well-formed configuration `guarded` is transparent. -/
theorem guarded_of_wf {s : State} (h : s.cfg.wellFormed = true) (k : Host.Outcome State Fault Refusal) :
    guarded s k = k := by
  unfold guarded
  rw [if_pos h]

/-- An ill-formed configuration is refused. -/
theorem guarded_of_not_wf {s : State} (h : s.cfg.wellFormed = false) (k : Host.Outcome State Fault Refusal) :
    guarded s k = .refused .illFormedConfiguration := by
  unfold guarded
  rw [h]
  rfl

/-- The next state of each command. -/
def commandResult (i : Instr) (s : State) : State :=
  match i with
  | .nop => complete .none s
  | .resolveNote => complete .none (commitNote (resolveNote s.cfg s.inputs) s)
  | .designFilter =>
    if s.inputs.sampleRate = 0 then raiseError .arg s
    else complete .none (commitFilter (filterRegsOf s.cfg s.inputs) s)
  | .buildEnv =>
    complete .none (commitEnv (envTable s.cfg (envelopeOf s.inputs) (linGainOf s.inputs)) s)
  | .derive => complete .none (commitDerived (deriveRegs s.cfg s.inputs) s)
  | .synthesize => synthesize s
  | .release => complete .none (commitBuffer noBuffer (releaseHeld s))

/-- Every command answers its next state, unless the configuration is ill-formed. -/
theorem exec_eq (i : Instr) (s : State) : exec i s = guarded s (.next (commandResult i s)) := by
  cases i <;> try rfl
  show execDesignFilter s = _
  unfold execDesignFilter commandResult
  congr 1
  split <;> rfl

/-- What a command can answer. -/
theorem exec_eq_next {i : Instr} {s t : State} (h : exec i s = .next t) :
    s.cfg.wellFormed = true ∧ t = commandResult i s := by
  rw [exec_eq] at h
  obtain ⟨hw, hk⟩ := guarded_eq_next h
  exact ⟨hw, by injection hk with e; exact e.symm⟩

/-- What SYNTHESIZE can do in its first phase (43_orchestrator.md R114). -/
theorem synthesize_cases (s : State) :
    (s.inputs.sampleRate = 0 ∧ synthesize s = raiseError .arg s) ∨
    (s.inputs.sampleRate ≠ 0 ∧ allocSize (sampleCountOf s.inputs) ≠ s.buffer.cap.toNat ∧
      synthesize s =
        requestBuffer (allocSize (sampleCountOf s.inputs)) (synthCompute s.cfg s.inputs) s) ∨
    (s.inputs.sampleRate ≠ 0 ∧ allocSize (sampleCountOf s.inputs) = s.buffer.cap.toNat ∧
      synthesize s = synthCommit (synthCompute s.cfg s.inputs) s.buffer s) := by
  unfold synthesize needsAlloc
  by_cases h0 : s.inputs.sampleRate = 0
  · exact .inl ⟨h0, if_pos h0⟩
  · rw [if_neg h0]
    by_cases h1 : allocSize (sampleCountOf s.inputs) = s.buffer.cap.toNat
    · exact .inr (.inr ⟨h0, h1, by rw [if_neg (by simpa using h1)]⟩)
    · exact .inr (.inl ⟨h0, h1, by rw [if_pos (by simpa using h1)]⟩)

/-- A SYNTHESIZE commit, as one record update (43_orchestrator.md R115). -/
theorem synthCommit_eq (k : CommitSet) (b : BufferRegs) (s : State) :
    synthCommit k b s =
      { s with
        derived := k.derived
        inputs := { s.inputs with linGain := k.gain }
        envLut := s.envLut.storeFrom 0 k.lut
        filter := k.filter
        buffer := b
        outbox := s.outbox ++ [.genStart b.handle]
        fsm := .genWait } := by
  unfold synthCommit commitDerived commitGain commitEnv commitFilter commitBuffer issue enter
  rfl

/-- A SYNTHESIZE request, as one record update (43_orchestrator.md R114). -/
theorem requestBuffer_eq (n : Nat) (k : CommitSet) (s : State) :
    requestBuffer n k s = { s with outbox := s.outbox ++ [.allocRequest n], fsm := .allocWait n k } := rfl

/-- No command touches OVR, CTRL, the construction parameters or what is outside the block but the outbox and the
live handles. -/
theorem commandResult_frame (i : Instr) (s : State) :
    (commandResult i s).ovr = s.ovr ∧ (commandResult i s).ctrlIE = s.ctrlIE ∧
      (commandResult i s).cfg = s.cfg ∧ (commandResult i s).inbox = s.inbox ∧
      (commandResult i s).reply = s.reply ∧ (commandResult i s).epoch = s.epoch ∧
      (commandResult i s).draws = s.draws := by
  cases i <;> simp only [commandResult]
  case designFilter => split <;> simp
  case synthesize =>
    rcases synthesize_cases s with ⟨-, h⟩ | ⟨-, -, h⟩ | ⟨-, -, h⟩ <;> rw [h] <;> simp
  all_goals simp

/-- What a host read can do (20_memory.md R53, R56). -/
theorem hostRead_eq_next {off width : Nat} {s t : State} (h : hostRead off width s = .next t) :
    off < 2048 ∧
      ((accessWellFormed off width = true ∧ t = setReply (.data (regRead off s)) (afterRead off s)) ∨
        (accessWellFormed off width = false ∧ t = setReply .busError s)) := by
  unfold hostRead at h
  split at h
  · cases h
  · rename_i ho
    split at h
    · rename_i ha
      injection h with e
      exact ⟨by omega, .inl ⟨ha, e.symm⟩⟩
    · rename_i ha
      injection h with e
      exact ⟨by omega, .inr ⟨by simpa using ha, e.symm⟩⟩

/-- What a host write can do (20_memory.md R53, R57). -/
theorem hostWrite_eq_next {off width : Nat} {v : Word} {s t : State} (h : hostWrite off width v s = .next t) :
    off < 2048 ∧
      ((accessWellFormed off width = true ∧ t = setReply .written (regWrite off v s)) ∨
        (accessWellFormed off width = false ∧ t = setReply .busError s)) := by
  unfold hostWrite at h
  split at h
  · cases h
  · rename_i ho
    split at h
    · rename_i ha
      injection h with e
      exact ⟨by omega, .inl ⟨ha, e.symm⟩⟩
    · rename_i ha
      injection h with e
      exact ⟨by omega, .inr ⟨by simpa using ha, e.symm⟩⟩

/-- What a word offered to CMD can do (30_encoding.md R66). -/
theorem offer_cases (v : Word) (s : State) :
    (∃ i, decode v = .ok i ∧ offer v s = accept i s) ∨
      (∃ e, decode v = .error e ∧ offer v s = rejectIllegal s) := by
  unfold offer
  cases h : decode v with
  | ok i => exact .inl ⟨i, rfl, rfl⟩
  | error e => exact .inr ⟨e, rfl, rfl⟩

/-- A write to a register that is none of CTRL, STATUS and CMD (20_memory.md R57). -/
theorem regWrite_plain {off : Nat} {r : Reg} (v : Word) (s : State) (h : regAt off = some r) (h1 : r ≠ .ctrl)
    (h2 : r ≠ .status) (h3 : r ≠ .cmd) :
    regWrite off v s = if isInput r then writeInput r v s else s := by
  unfold regWrite
  rw [h]
  cases r <;> first | rfl | exact absurd rfl h1 | exact absurd rfl h2 | exact absurd rfl h3

/-- What a register write can do (20_memory.md R57). -/
theorem regWrite_cases (off : Nat) (v : Word) (s : State) :
    (regWrite off v s = s ∧
      (regAt off = none ∨ ∃ r, regAt off = some r ∧ isInput r = false ∧ r ≠ .ctrl ∧ r ≠ .status ∧ r ≠ .cmd)) ∨
    (regAt off = some .ctrl ∧ regWrite off v s = writeCtrl v s) ∨
    (regAt off = some .status ∧ regWrite off v s = writeStatus v s) ∨
    (regAt off = some .cmd ∧ busy s = true ∧ regWrite off v s = setOverrun s) ∨
    (regAt off = some .cmd ∧ busy s = false ∧ regWrite off v s = offer v s) ∨
    (∃ r, regAt off = some r ∧ isInput r = true ∧ busy s = true ∧ regWrite off v s = setOverrun s) ∨
    (∃ r, regAt off = some r ∧ isInput r = true ∧ busy s = false ∧
      regWrite off v s = { s with inputs := storeInput r v s.inputs }) := by
  cases h : regAt off with
  | none => exact .inl ⟨by unfold regWrite; rw [h], .inl rfl⟩
  | some r =>
    by_cases h1 : r = .ctrl
    · subst h1
      exact .inr (.inl ⟨rfl, by unfold regWrite; rw [h]⟩)
    by_cases h2 : r = .status
    · subst h2
      exact .inr (.inr (.inl ⟨rfl, by unfold regWrite; rw [h]⟩))
    by_cases h3 : r = .cmd
    · subst h3
      have e : regWrite off v s = if busy s then setOverrun s else offer v s := by unfold regWrite; rw [h]; rfl
      rw [e]
      cases busy s
      · exact .inr (.inr (.inr (.inr (.inl ⟨rfl, rfl, rfl⟩))))
      · exact .inr (.inr (.inr (.inl ⟨rfl, rfl, rfl⟩)))
    rw [regWrite_plain v s h h1 h2 h3]
    unfold writeInput
    cases hi : isInput r
    · exact .inl ⟨rfl, .inr ⟨r, rfl, hi, h1, h2, h3⟩⟩
    · cases busy s
      · exact .inr (.inr (.inr (.inr (.inr (.inr ⟨r, rfl, hi, rfl, rfl⟩)))))
      · exact .inr (.inr (.inr (.inr (.inr (.inl ⟨r, rfl, hi, rfl, rfl⟩)))))

/-- What an allocator answer can do (43_orchestrator.md R114, 70_reset_and_hazards.md R136). -/
theorem onAllocAnswer_eq_next {epoch : Nat} {ans : AllocAnswer} {s t : State}
    (h : onAllocAnswer epoch ans s = .next t) :
    (epoch < s.epoch ∧ t = s) ∨
    (epoch = s.epoch ∧ ∃ size k, s.fsm = .allocWait size k ∧
      ((ans = .fail ∧ t = complete .allocFail s) ∨
        (∃ g, ans = .ok g ∧ g ≠ 0 ∧ g ∉ s.live ∧ t = synthGranted size k g s))) := by
  unfold onAllocAnswer at h
  split at h
  · rename_i hlt
    injection h with e
    exact .inl ⟨hlt, e.symm⟩
  · split at h
    · cases h
    · have he : epoch = s.epoch := by omega
      right
      refine ⟨he, ?_⟩
      split at h
      · rename_i size k hf
        injection h with e
        exact ⟨size, k, hf, .inl ⟨rfl, e.symm⟩⟩
      · rename_i size k g hf
        split at h
        · cases h
        · rename_i hg
          injection h with e
          exact ⟨size, k, hf, .inr ⟨g, rfl, fun z => hg (.inl z), fun z => hg (.inr z), e.symm⟩⟩
      · cases h

/-- What a GenDone can do (43_orchestrator.md R115, 70_reset_and_hazards.md R136). -/
theorem onGenDone_eq_next {epoch : Nat} {s t : State} (h : onGenDone epoch s = .next t) :
    (epoch < s.epoch ∧ t = s) ∨ (epoch = s.epoch ∧ s.fsm = .genWait ∧ t = complete .none s) := by
  unfold onGenDone at h
  split at h
  · rename_i hlt
    injection h with e
    exact .inl ⟨hlt, e.symm⟩
  · split at h
    · cases h
    · split at h
      · rename_i hf
        injection h with e
        exact .inr ⟨by omega, hf, e.symm⟩
      · cases h

/-- What a generation-port read can do (60_exceptions.md R130). -/
theorem onGenRead_eq_next {r : Reg} {s t : State} (h : onGenRead r s = .next t) :
    s.fsm = .genWait ∧ genServes r = true ∧ t = setReply (.genData (regValue r s)) s := by
  unfold onGenRead at h
  split at h
  · rename_i hf
    split at h
    · rename_i hg
      injection h with e
      exact ⟨hf, hg, e.symm⟩
    · cases h
  · cases h

/-- A grant, as one record update: the old buffer is released if there is one, then the commit of the request's
commit set with the new one (43_orchestrator.md R114, R115). -/
theorem synthGranted_eq (size : Nat) (k : CommitSet) (h : Word) (s : State) :
    synthGranted size k h s =
      { s with
        derived := k.derived
        inputs := { s.inputs with linGain := k.gain }
        envLut := s.envLut.storeFrom 0 k.lut
        filter := k.filter
        buffer := { handle := h, cap := BitVec.ofNat 32 size }
        outbox :=
          s.outbox ++ (if s.buffer.handle = 0 then [] else [.allocRelease s.buffer.handle]) ++ [.genStart h]
        live := if s.buffer.handle = 0 then h :: s.live else (h :: s.live).erase s.buffer.handle
        fsm := .genWait } := by
  unfold synthGranted
  rw [synthCommit_eq]
  unfold releaseHeld grantHandle
  by_cases h0 : s.buffer.handle = 0
  · rw [if_neg (by simpa using h0), if_pos h0, if_pos h0, List.append_nil]
  · rw [if_pos (by simpa using h0), if_neg h0, if_neg h0]
    rfl

/-- A read changes at most the count of free draws (20_memory.md R56). -/
theorem afterRead_eq (off : Nat) (s : State) : ∃ n, afterRead off s = { s with draws := n } := by
  unfold afterRead
  split
  · exact ⟨s.draws, rfl⟩
  · split
    · exact ⟨_, rfl⟩
    · exact ⟨s.draws, rfl⟩

/-- What an event that takes effect can do (60_exceptions.md R124): a read changes nothing of the block; a write does
what its offset and BUSY say; a late answer does nothing; an answer, a GenDone, a port read and a reset do what
their rules say. -/
theorem takeEvent_eq_next {e : Event} {s t : State} (h : takeEvent e s = .next t) :
    (∃ off width n r, e = .hostRead off width ∧ t = { s with draws := n, reply := r }) ∨
    (∃ off width v u r, e = .hostWrite off width v ∧ t = setReply r u ∧
      (u = s ∨ (regAt off = some .ctrl ∧ width = 32 ∧ u = writeCtrl v s) ∨
        (regAt off = some .status ∧ width = 32 ∧ u = writeStatus v s) ∨
        (busy s = true ∧ u = setOverrun s) ∨
        (regAt off = some .cmd ∧ width = 32 ∧ busy s = false ∧ u = offer v s) ∨
        (busy s = false ∧ ∃ r, u = { s with inputs := storeInput r v s.inputs }))) ∨
    (t = s ∧ ((∃ n a, e = .allocAnswer n a ∧ n < s.epoch) ∨ ∃ n, e = .genDone n ∧ n < s.epoch)) ∨
    (∃ size k, s.fsm = .allocWait size k ∧ e = .allocAnswer s.epoch .fail ∧ t = complete .allocFail s) ∨
    (∃ size k g, s.fsm = .allocWait size k ∧ e = .allocAnswer s.epoch (.ok g) ∧ g ≠ 0 ∧ g ∉ s.live ∧
      t = synthGranted size k g s) ∨
    (e = .genDone s.epoch ∧ s.fsm = .genWait ∧ t = complete .none s) ∨
    (∃ r, e = .genRead r ∧ s.fsm = .genWait ∧ t = setReply (.genData (regValue r s)) s) ∨
    (∃ b, e = .reset b ∧ t = resetBlock b s) := by
  cases e with
  | hostRead off width =>
    obtain ⟨-, ⟨-, h'⟩ | ⟨-, h'⟩⟩ := hostRead_eq_next h
    · obtain ⟨n, hn⟩ := afterRead_eq off s
      exact .inl ⟨off, width, n, _, rfl, by rw [h', hn]; rfl⟩
    · exact .inl ⟨off, width, s.draws, _, rfl, by rw [h']; rfl⟩
  | hostWrite off width v =>
    refine .inr (.inl ?_)
    obtain ⟨-, ⟨ha, h'⟩ | ⟨-, h'⟩⟩ := hostWrite_eq_next h
    · refine ⟨off, width, v, _, _, rfl, h', ?_⟩
      have hw : width = 32 := by
        simp only [accessWellFormed, Bool.and_eq_true, decide_eq_true_eq] at ha
        exact ha.1
      rcases regWrite_cases off v s with ⟨hr, -⟩ | ⟨ho, hr⟩ | ⟨ho, hr⟩ | ⟨-, hb, hr⟩ | ⟨ho, hb, hr⟩ |
        ⟨r, -, -, hb, hr⟩ | ⟨r, -, -, hb, hr⟩
      · exact .inl hr
      · exact .inr (.inl ⟨ho, hw, hr⟩)
      · exact .inr (.inr (.inl ⟨ho, hw, hr⟩))
      · exact .inr (.inr (.inr (.inl ⟨hb, hr⟩)))
      · exact .inr (.inr (.inr (.inr (.inl ⟨ho, hw, hb, hr⟩))))
      · exact .inr (.inr (.inr (.inl ⟨hb, hr⟩)))
      · exact .inr (.inr (.inr (.inr (.inr ⟨hb, r, hr⟩))))
    · exact ⟨off, width, v, s, _, rfl, h', .inl rfl⟩
  | allocAnswer n a =>
    rcases onAllocAnswer_eq_next h with ⟨hn, h'⟩ | ⟨rfl, size, k, hf, ⟨rfl, h'⟩ | ⟨g, rfl, h0, hl, h'⟩⟩
    · exact .inr (.inr (.inl ⟨h', .inl ⟨n, a, rfl, hn⟩⟩))
    · exact .inr (.inr (.inr (.inl ⟨size, k, hf, rfl, h'⟩)))
    · exact .inr (.inr (.inr (.inr (.inl ⟨size, k, g, hf, rfl, h0, hl, h'⟩))))
  | genDone n =>
    rcases onGenDone_eq_next h with ⟨hn, h'⟩ | ⟨rfl, hf, h'⟩
    · exact .inr (.inr (.inl ⟨h', .inr ⟨n, rfl, hn⟩⟩))
    · exact .inr (.inr (.inr (.inr (.inr (.inl ⟨rfl, hf, h'⟩)))))
  | genRead r =>
    obtain ⟨hf, -, h'⟩ := onGenRead_eq_next h
    exact .inr (.inr (.inr (.inr (.inr (.inr (.inl ⟨r, rfl, hf, h'⟩))))))
  | reset b =>
    injection h with h'
    exact .inr (.inr (.inr (.inr (.inr (.inr (.inr ⟨b, rfl, h'.symm⟩))))))

/-- What the block's own action can do. -/
theorem progress_eq_next {s t : State} (h : progress s = .next t) :
    (∃ i, s.fsm = .run i ∧ s.cfg.wellFormed = true ∧ t = commandResult i s) ∨
      ((∀ i, s.fsm ≠ .run i) ∧ t = s) := by
  unfold progress at h
  cases hf : s.fsm with
  | run i =>
    rw [hf] at h
    obtain ⟨hw, ht⟩ := exec_eq_next h
    exact .inl ⟨i, rfl, hw, ht⟩
  | idle => rw [hf] at h; injection h with e; exact .inr ⟨by simp, e.symm⟩
  | allocWait _ _ => rw [hf] at h; injection h with e; exact .inr ⟨by simp, e.symm⟩
  | genWait => rw [hf] at h; injection h with e; exact .inr ⟨by simp, e.symm⟩

/-- What the block's action in the step of an arrival can do. -/
theorem settle_eq_next {b : Bool} {s t : State} (h : settle b s = .next t) :
    t = s ∨ ∃ i, b = true ∧ s.fsm = .run i ∧ s.cfg.wellFormed = true ∧ t = commandResult i s := by
  unfold settle at h
  split at h
  · rename_i hb
    rcases progress_eq_next h with ⟨i, hf, hw, ht⟩ | ⟨-, ht⟩
    · exact .inr ⟨i, hb, hf, hw, ht⟩
    · exact .inl ht
  · injection h with e
    exact .inl e.symm

/-- What the step of an arrival can do: the arrival takes effect, then the block may act. -/
theorem stepArrival_eq_next {a : Arrival} {s t : State} (h : stepArrival a s = .next t) :
    ∃ u, takeEvent a.event (setReply .none s) = .next u ∧ settle a.runs u = .next t := by
  unfold stepArrival at h
  split at h
  · rename_i u hu
    exact ⟨u, hu, h⟩
  · cases h
  · cases h

/-- A command in RUN runs. -/
theorem progress_run {s : State} {i : Instr} (h : s.fsm = .run i) : progress s = exec i s := by
  unfold progress
  split <;> simp_all

/-- A block without a command in RUN waits. -/
theorem progress_wait {s : State} (h : ∀ i, s.fsm ≠ .run i) : progress s = .next s := by
  unfold progress
  split <;> simp_all

/-- After an event that takes effect, the block may act. -/
theorem stepArrival_of_take {s u : State} {a : Arrival} (h : takeEvent a.event (setReply .none s) = .next u) :
    stepArrival a s = settle a.runs u := by
  unfold stepArrival
  rw [h]

/-- A step with an arrival. -/
theorem step_of_arrival {s : State} {a : Arrival} {rest : List Arrival} (hw : s.cfg.wellFormed = true)
    (h : s.inbox = a :: rest) : step s = stepArrival a { s with inbox := rest } := by
  unfold step
  rw [guarded_of_wf hw]
  split
  · simp_all
  · rename_i h'
    rw [h] at h'
    injection h' with e1 e2
    subst e1
    subst e2
    rfl

/-- A step without an arrival. -/
theorem step_of_no_arrival {s : State} (hw : s.cfg.wellFormed = true) (h : s.inbox = []) :
    step s = progress (setReply .none s) := by
  unfold step
  rw [guarded_of_wf hw]
  split
  · rfl
  · simp_all

/-- What a step can do. -/
theorem step_eq_next {s t : State} (h : step s = .next t) :
    s.cfg.wellFormed = true ∧
      ((s.inbox = [] ∧ progress (setReply .none s) = .next t) ∨
        (∃ a rest u, s.inbox = a :: rest ∧
          takeEvent a.event (setReply .none { s with inbox := rest }) = .next u ∧
          settle a.runs u = .next t)) := by
  unfold step at h
  obtain ⟨hw, hk⟩ := guarded_eq_next h
  refine ⟨hw, ?_⟩
  cases hi : s.inbox with
  | nil => rw [hi] at hk; exact .inl ⟨rfl, hk⟩
  | cons a rest =>
    rw [hi] at hk
    obtain ⟨u, hu, hs⟩ := stepArrival_eq_next hk
    exact .inr ⟨a, rest, u, rfl, hu, hs⟩

/-- A predicate that every command and every event keeps, and that the model's own fields inbox and reply do not
bear on, is kept by every step. -/
theorem step_keeps {P : State → Prop} (hin : ∀ s l, P s → P { s with inbox := l })
    (hre : ∀ s r, P s → P (setReply r s))
    (hcmd : ∀ i s, s.cfg.wellFormed = true → s.fsm = .run i → P s → P (commandResult i s))
    (hev : ∀ e s t, s.cfg.wellFormed = true → P s → takeEvent e s = .next t → P t)
    {s t : State} (hs : P s) (h : step s = .next t) : P t := by
  obtain ⟨hw, ⟨-, hp⟩ | ⟨a, rest, u, -, hu, hp⟩⟩ := step_eq_next h
  · rcases progress_eq_next hp with ⟨i, hf, hw', rfl⟩ | ⟨-, rfl⟩
    · exact hcmd i _ hw' hf (hre _ _ hs)
    · exact hre _ _ hs
  · have hP := hev _ (setReply .none { s with inbox := rest }) _ hw
      (hre { s with inbox := rest } .none (hin s rest hs)) hu
    rcases settle_eq_next hp with rfl | ⟨i, -, hf, hw', rfl⟩
    · exact hP
    · exact hcmd i _ hw' hf hP

end Sys2Proof.Machine
end

