-- ==== Sys2Proof/Tests/Slice0.lean ====
section
/-! SUPPORT. The model's own tests: words written out from the spec's encoding, an ill-formed term for each check,
one step at a time with results from 95_test_vectors.md, and a witness for the hypotheses of each statement. -/

namespace Sys2Proof.Tests

-- The kernel evaluations below run one after another: each would else reserve a thread's memory of its own.
set_option Elab.async false

open Sys2Proof.Machine

/-! ### Decoding: words written out from 30_encoding.md R65, R67, R70 -/

theorem test_decode_nop : decode 0b0000000000000000000000000000_0000 = .ok .nop := by decide
theorem test_decode_resolve_note : decode 0b0000000000000000000000000000_0001 = .ok .resolveNote := by decide
theorem test_decode_design_filter : decode 0b0000000000000000000000000000_0010 = .ok .designFilter := by decide
theorem test_decode_build_env : decode 0b0000000000000000000000000000_0011 = .ok .buildEnv := by decide
theorem test_decode_derive : decode 0b0000000000000000000000000000_0100 = .ok .derive := by decide
theorem test_decode_synthesize : decode 0b0000000000000000000000000000_0101 = .ok .synthesize := by decide
theorem test_decode_release : decode 0b0000000000000000000000000000_0110 = .ok .release := by decide

theorem test_decode_reserved_opcodes :
    decode 0b0000000000000000000000000000_0111 = .error .reservedOpcode ∧
      decode 0b0000000000000000000000000000_1000 = .error .reservedOpcode ∧
      decode 0b0000000000000000000000000000_1111 = .error .reservedOpcode := by decide

theorem test_decode_reserved_bits :
    decode 0b0000000000000000000000000001_0000 = .error .reservedBits ∧
      decode 0b1000000000000000000000000000_0001 = .error .reservedBits ∧
      decode 0xFFFFFFFF = .error .reservedBits := by decide

theorem test_decode_table_word :
    decodeTableWord 32 5 = some .synthesize ∧ decodeTableWord 32 7 = none ∧ decodeTableWord 32 16 = none := by
  decide

/-! ### Well-formedness: a small configuration, and one ill-formed configuration for each check (10_state.md R45) -/

/-- A well-formed configuration of the least size: SIN_SIZE = 8, TAN_SIZE = 2, two gains. -/
def tiny : Config :=
  { sinRom := [0, 23170, 32767, 23170, 0, -23170, -32767, -23170]
    tanRom := [0, 13573]
    dbMin := 0
    dbMax := 1
    dbRom := [256, 259]
    octBase := 2
    periodRom := List.replicate 3 (List.replicate 12 428)
    kCorr := 26214
    maxAmp := 256
    envMax := 65535
    clockReset := 3546895
    idValue := 0x42454550 }

theorem test_tiny_wellFormed : tiny.wellFormed = true := by decide

theorem test_sin_size_not_8 :
    ({ tiny with sinRom := [0, 1, 0, -1] } : Config).checkSinSize = false ∧
      ({ tiny with sinRom := [] } : Config).wellFormed = false := by decide

theorem test_poles_not_two :
    ({ tiny with sinRom := List.replicate 8 (-1) } : Config).checkPoles = false ∧
      ({ tiny with sinRom := List.replicate 8 (-1) } : Config).wellFormed = false := by decide

theorem test_tan_above_32767 :
    ({ tiny with tanRom := [32768] } : Config).checkTan = false ∧
      ({ tiny with tanRom := [] } : Config).wellFormed = false := by decide

theorem test_period_zero :
    ({ tiny with periodRom := List.replicate 3 (List.replicate 12 0) } : Config).checkPeriod = false ∧
      ({ tiny with periodRom := List.replicate 2 (List.replicate 12 428) } : Config).wellFormed = false := by
  decide

theorem test_db_reversed :
    ({ tiny with dbMin := 2 } : Config).checkDb = false ∧
      ({ tiny with dbRom := [256, 4294967296] } : Config).wellFormed = false := by decide

theorem test_k_corr_above_u16 :
    ({ tiny with kCorr := 65536 } : Config).checkKCorr = false ∧
      ({ tiny with kCorr := 65536 } : Config).wellFormed = false := by decide

theorem test_max_amp_above_u16 :
    ({ tiny with maxAmp := 65536 } : Config).checkMaxAmp = false ∧
      ({ tiny with maxAmp := 65536 } : Config).wellFormed = false := by decide

theorem test_env_max_above_u16 :
    ({ tiny with envMax := 65536 } : Config).checkEnvMax = false ∧
      ({ tiny with envMax := 65536 } : Config).wellFormed = false := by decide

theorem test_sin_entry_above_s16 :
    ({ tiny with sinRom := [0, 23170, 32768, 23170, 0, -23170, -32767, -23170] } : Config).checkSinEntries = false ∧
      ({ tiny with sinRom := [0, 23170, 32768, 23170, 0, -23170, -32767, -23170] } : Config).wellFormed = false := by
  decide

theorem test_access_well_formed :
    accessWellFormed 0x014 32 = true ∧ accessWellFormed 0x014 16 = false ∧ accessWellFormed 0x016 32 = false := by
  decide

theorem test_commands_well_formed :
    [Instr.nop, .resolveNote, .designFilter, .buildEnv, .derive, .synthesize, .release].all Instr.wellFormed = true := by
  decide

/-! ### Helpers -/

theorem reference_wellFormed : referenceConfig.wellFormed = true := by decide +kernel

/-- The reset state, under the reference configuration, with these inputs. -/
def reference (x : Inputs) : State := { State.reset with inputs := x }

/-- The reset state of the small configuration with these inputs. -/
def withInputs (x : Inputs) : State := { State.resetWith tiny with inputs := x }

/-- Inputs at reset. -/
def zeroInputs : Inputs := resetInputs tiny

/-- The inputs of program P3 (95_test_vectors.md section 3). -/
def songInputs : Inputs :=
  { zeroInputs with
    sampleRate := 8296, durationMs := 750, osc1Freq := 440, osc2Freq := 880, mix := 50, waves := 9
    cutoff := 1000, env := 0x33851933, gainDb := 0 }

/-- A block that has just been reset, under the small configuration. -/
def fresh : State := withInputs zeroInputs

theorem exec_tiny (i : Instr) {s : State} (h : s.cfg = tiny) : exec i s = .next (commandResult i s) := by
  rw [exec_eq, guarded_of_wf (by rw [h]; exact test_tiny_wellFormed)]

/-- The outcome is a next state that satisfies `p`. -/
def nextIs (p : State → Bool) : Host.Outcome State Fault Refusal → Bool
  | .next t => p t
  | _ => false

/-- The next arrival is `e`, and the block may act in its step. -/
def arriving (e : Event) (s : State) : State := { s with inbox := [{ event := e, runs := true }] }

/-! ### Commands: results from 95_test_vectors.md sections 2.3 to 2.7 (`exec_eq`: `exec` answers `commandResult`) -/

theorem test_nop :
    exec .nop fresh = .next { fresh with done := true, err := .none, fsm := .idle } :=
  exec_tiny .nop rfl

theorem test_note_c3 :
    (commandResult .resolveNote (reference { zeroInputs with note := 0x30 })).noteOut =
      { period := 428, freq := 8287 } := by decide +kernel

theorem test_note_clamped_and_tie :
    (commandResult .resolveNote (reference { zeroInputs with note := 0xF5 })).noteOut =
        { period := 160, freq := 22168 } ∧
      (commandResult .resolveNote (reference { zeroInputs with note := 0x30, clockHz := 3547050 })).noteOut =
        { period := 428, freq := 8288 } := by decide +kernel

theorem test_filter_8287_1000 :
    (commandResult .designFilter (reference { zeroInputs with sampleRate := 8287, cutoff := 1000 })).filter =
      { b0 := 599, b1 := 1198, b2 := 599, a1 := BitVec.ofInt 16 (-16080), a2 := 5689, fdWc := 12988
        fdTidx := 123, z1Re := 16080, z1Im := 10692, z2Re := 16080, z2Im := BitVec.ofInt 16 (-10693)
        fdSumA := 5993 } := by decide +kernel

theorem test_filter_index_0 :
    (commandResult .designFilter (reference { zeroInputs with sampleRate := 3, cutoff := 5 })).filter =
      { b0 := 0, b1 := 0, b2 := 0, a1 := BitVec.ofInt 16 (-32768), a2 := 16383, fdWc := 0, fdTidx := 0
        z1Re := 32767, z1Im := 0, z2Re := 32767, z2Im := 0, fdSumA := 0xFFFFFFFF } := by decide +kernel

theorem test_tangent_index_saturates :
    tidxField 255 = 255 ∧ tidxField 65535 = 65535 ∧ tidxField 65536 = 65535 := by decide

theorem test_env_half_gain :
    (fun m : Memory => (m.read 50, m.read 51, m.read 204))
        (commandResult .buildEnv (reference { zeroInputs with env := 0x33851933, linGain := 128 })).envLut =
      (125, 127, 66) := by decide +kernel

theorem test_env_decay_into_release :
    (fun m : Memory => [m.read 198, m.read 199, m.read 200, m.read 201, m.read 202, m.read 255])
        (commandResult .buildEnv (reference { zeroInputs with env := 0x646464C8, linGain := 256 })).envLut =
      [252, 253, 255, 254, 252, 170] := by decide +kernel

theorem test_derive_song :
    (commandResult .derive (reference songInputs)).derived =
      { sampleCount := 6222, osc1Period := 19, osc2Period := 9, osc1Pinv := 3449, osc2Pinv := 7282
        envStep := 2696, amp1 := 128, amp2 := 128, pbWaves := 9 } := by decide +kernel

theorem test_derive_largest :
    (commandResult .derive (reference { zeroInputs with
        sampleRate := 0xFFFFFFFF, durationMs := 0xFFFFFFFF, osc1Freq := 0xFFFFFFFF, osc2Freq := 1
        mix := 101 })).derived =
      { sampleCount := 32766, osc1Period := 1, osc2Period := 4294967295, osc1Pinv := 65536, osc2Pinv := 0
        envStep := 512, amp1 := 0, amp2 := 256, pbWaves := 0 } := by decide +kernel

theorem test_synthesize_requests_8192 :
    (commandResult .synthesize (reference songInputs)).outbox = [.allocRequest 8192] := by decide +kernel

theorem test_synthesize_reuses_8192 :
    (fun t : State => (t.outbox, t.fsm, t.derived.sampleCount, t.derived.envStep, t.inputs.linGain))
        (commandResult .synthesize { reference { songInputs with durationMs := 900 } with
          buffer := { handle := 0x00010000, cap := 8192 } }) =
      ([.genStart 0x00010000], .genWait, 7466, 2247, 256) := by decide +kernel

theorem test_release :
    (fun t : State => (t.outbox, t.buffer, t.live))
        (commandResult .release { State.reset with
          buffer := { handle := 0x00020000, cap := 12288 }, live := [0x00020000] }) =
      ([.allocRelease 0x00020000], { handle := 0, cap := 0 }, []) := by decide +kernel

theorem test_release_without_buffer :
    (commandResult .release State.reset).outbox = [] := by decide +kernel

theorem test_gain_corners :
    linGain referenceConfig (-480) = 1 ∧ linGain referenceConfig 60 = 511 ∧
      linGain referenceConfig 481 = 64304 ∧ linGain referenceConfig (-32768) = 1 := by decide +kernel

/-! ### One step: results from 95_test_vectors.md sections 2.1 and 2.2 -/

theorem test_step_nop_status :
    nextIs (fun t => regValue .status t = 0x00000002) (step (fresh.withFetchWord 32 0)) = true := by
  decide +kernel

theorem test_step_illegal_status :
    nextIs (fun t => regValue .status t = 0x00000012) (step (fresh.withFetchWord 32 7)) = true := by
  decide +kernel

theorem test_read_after_reset :
    (regRead 0x000 State.reset, regRead 0x010 State.reset, regRead 0x0AC State.reset,
        regRead 0x0BC State.reset, regRead 0x00C State.reset, regRead 0x048 State.reset) =
      (0x42454550, 0x00361F0F, 14, 0x00004000, 0, 0) := by decide +kernel

theorem test_write_note_drops_reserved_bits :
    regRead 0x014 (regWrite 0x014 0xFFFFFFFF State.reset) = 0x000000FF := by decide +kernel

theorem test_gain_reads_zero_extended :
    regRead 0x028 (regWrite 0x028 0xFFFFFFFF State.reset) = 0x0000FFFF := by decide +kernel

theorem test_write_while_busy_sets_ovr :
    regRead 0x008 (regWrite 0x014 1 { State.reset with fsm := .genWait }) = 0x00000005 := by decide +kernel

theorem test_bus_error :
    hostRead 0x002 32 State.reset = .next { State.reset with reply := .busError } ∧
      hostWrite 0x004 16 1 State.reset = .next { State.reset with reply := .busError } := ⟨rfl, rfl⟩

theorem test_outside_window : hostRead 0x800 32 State.reset = .fault .outsideWindow := rfl

/-! ### Witnesses: states and operands that meet the hypotheses of the statements -/

/-- An idle block that holds a live buffer of 8192 bytes. -/
def holding : State :=
  { withInputs songInputs with buffer := { handle := 0x00010000, cap := 8192 }, live := [0x00010000] }

/-- A block that waits for the allocator, after a reset. -/
def allocating : State :=
  { withInputs songInputs with
    fsm := .allocWait 8192 (synthCompute tiny songInputs)
    epoch := 1 }

/-- A block that waits for the generation agent on a buffer of 8192 bytes. -/
def generating : State :=
  { holding with derived := deriveRegs tiny songInputs, fsm := .genWait, epoch := 1 }

/-- The configuration of every test state is well-formed, and so is the reference configuration (the statements
whose one hypothesis is the configuration, and those on BUILD_ENV). -/
theorem witness_config :
    State.reset.cfg.wellFormed = true ∧ fresh.cfg.wellFormed = true ∧ fresh.envLut.wf = true :=
  ⟨reference_wellFormed, test_tiny_wellFormed, rfl⟩

/-- A step that answers a next state (ConfigurationNeverChanges). -/
theorem witness_step : step fresh = .next fresh := step_of_no_arrival test_tiny_wellFormed rfl

/-- IllegalWordCompletesWithErrIllegal, CommandWordIsAccepted and the last clause of
InterruptLineFollowsEnableAndDone. -/
theorem witness_illegal_word :
    busy fresh = false ∧ (0x00000010 : Word).extractLsb' 4 28 ≠ 0 ∧
      (0x80000000 : Word).extractLsb' 4 28 ≠ 0 ∧ 7 ≤ ((0x00000007 : Word).extractLsb' 0 4).toNat ∧
      7 ≤ ((0x0000000F : Word).extractLsb' 0 4).toNat := by decide

/-- RegisterOffsetsDoNotAlias. -/
theorem witness_register_offsets :
    regAt 0x000 = some .id ∧ regAt 0x0E8 = some .fdSumA ∧ regAt 0x400 = some (.envLut 0) ∧
      regAt 0x7FC = some (.envLut 255) := by decide

/-- The unmapped clauses of RegReadFollowsTheRule and RegWriteFollowsTheRule. -/
theorem witness_unmapped_offsets : ∀ r, regOffset r ≠ 0x048 ∧ regOffset r ≠ 0x0EC ∧ regOffset r ≠ 0x3FC := by
  intro r
  cases r <;> simp only [regOffset] <;> omega

/-- The other clauses of RegReadFollowsTheRule. -/
theorem witness_read_clauses :
    regOffset .period = 0x040 ∧ 0x040 ≤ regOffset .period ∧ busy generating = true ∧
      regOffset (.envLut 255) = 0x7FC ∧ regOffset .waves = 0x03C ∧
      ¬ (0x040 ≤ regOffset .waves ∧ busy generating = true) ∧
      ¬ (0x040 ≤ regOffset .period ∧ busy fresh = true) := by decide

/-- UnalignedAccessIsABusError and AccessOutsideTheWindowFaults. -/
theorem witness_unaligned :
    ((0 : Nat) < 2048 ∧ ((16 : Nat) ≠ 32 ∨ 0 % 4 ≠ 0)) ∧ ((2047 : Nat) < 2048 ∧ ((32 : Nat) ≠ 32 ∨ 2047 % 4 ≠ 0)) ∧
      (2048 : Nat) ≤ 2048 := by decide

/-- The other clauses of RegWriteFollowsTheRule, and InputRegisterReadsBackWhatWasWritten. -/
theorem witness_write_clauses :
    readOnly .id = true ∧ readOnly .period = true ∧ readOnly (.envLut 255) = true ∧
      (isInput .clockHz = true ∧ regOffset .clockHz = 0x010) ∧
      (isInput .waves = true ∧ regOffset .waves = 0x03C) ∧
      busy fresh = false ∧ busy generating = true := by decide

/-- StepRunsTheDecodedCommand and FetchWordIsRunByTheNextStep. -/
theorem witness_step_runs :
    (fresh.withFetchWord 32 4).cfg.wellFormed = true ∧ busy (fresh.withFetchWord 32 4) = false ∧
      Instr.derive.wellFormed = true ∧ decode 4 = .ok .derive ∧
      (fresh.withFetchWord 32 4).inbox = [{ event := .hostWrite 0x00C 32 4, runs := true }] :=
  ⟨test_tiny_wellFormed, rfl, rfl, rfl, rfl⟩

/-- StepRunsAHeldCommand. -/
theorem witness_held_command :
    ({ fresh with fsm := .run .derive } : State).fsm = .run .derive ∧
      ({ fresh with fsm := .run .derive } : State).inbox = [] ∧
      busy { fresh with inbox := [{ event := .hostWrite 0x00C 32 4, runs := false }] } = false :=
  ⟨rfl, rfl, rfl⟩

/-- The last clause of StepRunsAHeldCommand: an arrival that takes effect in RUN, and a reset. -/
theorem witness_held_command_with_arrival :
    nextIs (fun u => u.fsm = .run .derive) (takeEvent (.hostRead 0x008 32) { fresh with fsm := .run .derive }) = true ∧
      nextIs (fun u => u.fsm = .idle) (takeEvent (.reset true) { fresh with fsm := .run .derive }) = true := by
  decide +kernel

/-- BlockWithoutArrivalWaits. -/
theorem witness_waits :
    fresh.inbox = [] ∧ (∀ i, fresh.fsm ≠ .run i) ∧ (∀ i, allocating.fsm ≠ .run i) ∧
      (∀ i, generating.fsm ≠ .run i) := by
  refine ⟨rfl, ?_, ?_, ?_⟩ <;> intro i h <;> cases h

/-- IllFormedConfigurationIsRefused: each of the checks of 10_state.md R45 alone makes its hypothesis true. -/
theorem witness_ill_formed :
    ¬ (0 < ({ tiny with sinRom := [0] } : Config).sinRom.length ∧
        ({ tiny with sinRom := [0] } : Config).sinRom.length % 8 = 0) ∧
      (retainedPoles { tiny with sinRom := List.replicate 8 0 }).length ≠ 2 ∧
      ¬ (∀ v ∈ ({ tiny with tanRom := [32768] } : Config).tanRom, v ≤ 32767) ∧
      ¬ (1 ≤ ({ tiny with tanRom := [] } : Config).tanRom.length) ∧
      ¬ (∀ row ∈ [[0]], ∀ v ∈ row, 1 ≤ v ∧ v ≤ 65535) ∧
      ¬ (({ tiny with dbMin := 2 } : Config).dbMin ≤ ({ tiny with dbMin := 2 } : Config).dbMax) ∧
      ¬ (65536 ≤ 65535) := by decide

/-- DesignFilterCommitsTheDesign, DesignFilterRejectsZeroSampleRate and SynthesizeRejectsZeroSampleRate. -/
theorem witness_sample_rates :
    (withInputs { zeroInputs with sampleRate := 1 }).inputs.sampleRate ≠ 0 ∧
      (withInputs songInputs).inputs.sampleRate ≠ 0 ∧ fresh.inputs.sampleRate = 0 := by decide

/-- CutoffOutOfRangeDesignsAtFmax. -/
theorem witness_cutoffs :
    ({ zeroInputs with sampleRate := 8287 } : Inputs).cutoff = 0 ∧
      ({ zeroInputs with sampleRate := 8287, cutoff := 2072 } : Inputs).sampleRate.toNat / 4 <
        ({ zeroInputs with sampleRate := 8287, cutoff := 2072 } : Inputs).cutoff.toNat := by decide

/-- TangentIndexStaysInTheRom, with its third clause's hypothesis. -/
theorem witness_tangent_clamp :
    referenceConfig.wellFormed = true ∧ tangentIndex referenceConfig 8000 (clampCutoff 8000 2000) ≠
      4 * referenceConfig.tanSize * clampCutoff 8000 2000 / 8000 :=
  ⟨reference_wellFormed, by decide +kernel⟩

/-- BilinearDivisorIsPositive. -/
theorem witness_retained_pole :
    ({ re := -9184, im := 9183 } : Cpx) ∈ splanePoles referenceConfig 12988 := by decide +kernel

/-- The envelope of example S2, with de <= se. -/
def exampleEnvelope : Envelope := { atk := 51, dec := 25, sus := 133, rel := 51 }

/-- An envelope with se < de. -/
def crossedEnvelope : Envelope := { atk := 200, dec := 100, sus := 100, rel := 100 }

/-- EnvelopeKeepsItsShape: both envelopes are in range, and each stretch has two entries in it. -/
theorem witness_envelopes :
    (exampleEnvelope.atk ≤ 255 ∧ exampleEnvelope.dec ≤ 255 ∧ exampleEnvelope.sus ≤ 255 ∧ exampleEnvelope.rel ≤ 255) ∧
      (attackEnd exampleEnvelope = 51 ∧ decayEnd exampleEnvelope = 76 ∧ sustainEnd exampleEnvelope = 204) ∧
      (0 ≤ 50 ∧ 50 < attackEnd exampleEnvelope) ∧ (attackEnd exampleEnvelope ≤ 51 ∧ 75 < decayEnd exampleEnvelope) ∧
      (decayEnd exampleEnvelope ≤ 76 ∧ 203 < sustainEnd exampleEnvelope) ∧ sustainEnd exampleEnvelope ≤ 204 ∧
      sustainEnd crossedEnvelope < decayEnd crossedEnvelope ∧ attackEnd crossedEnvelope = 200 := by decide

/-- SynthesizeRequestsABuffer and SynthesizeReusesTheBuffer. -/
theorem witness_new_class :
    (withInputs songInputs).buffer.cap.toNat ≠ allocSize (sampleCountOf (withInputs songInputs).inputs) ∧
      holding.buffer.cap.toNat = allocSize (sampleCountOf holding.inputs) ∧ holding.envLut.wf = true := by
  decide +kernel

/-- FailedAllocationChangesOnlyStatus and GrantedBufferIsCommitted; the arrival is the answer. -/
theorem witness_grant :
    allocating.cfg.wellFormed = true ∧ allocating.epoch = 1 ∧ (0x00010000 : Word) ≠ 0 ∧
      (0x00010000 : Word) ∉ allocating.live ∧
      allocating.fsm = .allocWait 8192 (synthCompute tiny songInputs) :=
  ⟨test_tiny_wellFormed, rfl, by decide, by decide, rfl⟩

/-- GenDoneCompletesSynthesize, LateAgentAnswersAreIgnored, GenerationPortReadsTheParameterBlock and
AgentMessagesOutOfProtocolFault. -/
theorem witness_agents :
    generating.fsm = .genWait ∧ 0 < generating.epoch ∧ (0x00010000 : Word) ∈ generating.live ∧
      (0x00010000 : Word) ∈ ({ allocating with live := [0x00010000] } : State).live ∧
      (∀ size k, generating.fsm ≠ .allocWait size k) ∧ allocating.fsm ≠ .genWait := by
  refine ⟨rfl, by decide, by decide, by decide, ?_, ?_⟩
  · intro _ _ h
    cases h
  · intro h
    cases h

/-- GenerationFreezesTheParameterBlock. -/
theorem witness_generation_step :
    step generating = .next generating ∧
      ∀ b, (generating.inbox.head?.map Arrival.event) ≠ some (.reset b) := by
  refine ⟨step_of_no_arrival test_tiny_wellFormed rfl, ?_⟩
  intro b h
  cases h

/-- The three arrivals of a synthesis that is granted a buffer. -/
def grantedArrivals (h : Word) : List Arrival :=
  [{ event := .hostWrite 0x00C 32 0x00000005, runs := true }, { event := .allocAnswer 0 (.ok h), runs := true },
    { event := .genDone 0, runs := false }]

/-- BusyBlockKeepsItsStateUntilItsTurn: a late answer in ALLOC_WAIT, a host read in GEN_WAIT, and a read while a
command is held in RUN, each a step that answers a next state. -/
theorem witness_busy_block :
    nextIs (fun _ => true) (step (arriving (.allocAnswer 0 .fail) allocating)) = true ∧ allocating.epoch = 1 ∧
      nextIs (fun _ => true) (step (arriving (.hostRead 0x008 32) generating)) = true ∧
      nextIs (fun t => t.fsm = .run .derive) (step { fresh with
        fsm := .run .derive, inbox := [{ event := .hostRead 0x008 32, runs := false }] }) = true := by
  decide +kernel

/-- SynthesisRunsToCompletion and FailedSynthesisLeavesEveryRegister, without a buffer and with one. -/
theorem witness_synthesis :
    (withInputs songInputs).fsm = .idle ∧ (withInputs songInputs).epoch = 0 ∧
      (0x00010000 : Word) ∉ (withInputs songInputs).live ∧
      ({ withInputs songInputs with inbox := grantedArrivals 0x00010000 } : State).inbox =
        grantedArrivals 0x00010000 ∧
      (0x00020000 : Word) ∉ holding.live ∧
      allocSize (sampleCountOf { songInputs with durationMs := 1000 }) ≠ holding.buffer.cap.toNat := by
  decide +kernel

/-- ResetRestoresEveryRegister. -/
theorem witness_reset_arrival :
    (arriving (.reset true) generating).cfg.wellFormed = true ∧
      (arriving (.reset true) generating).inbox = [{ event := .reset true, runs := true }] :=
  ⟨test_tiny_wellFormed, rfl⟩

/-- EveryStepKeepsTheInvariant. -/
theorem witness_invariant : State.Inv generating ∧ step generating = .next generating := by
  have hd : DerivedInRange generating.cfg generating.derived := by
    unfold DerivedInRange CountInRange
    decide +kernel
  refine ⟨⟨rfl, ⟨by decide, by decide, by decide⟩, .inr hd, ?_, ?_, ?_, ?_⟩, witness_generation_step.1⟩
  · intro size k h
    cases h
  · intro _
    exact ⟨by decide, hd, by decide +kernel⟩
  · intro _
    exact ⟨rfl, rfl⟩
  · exact ⟨by decide, by decide⟩

/-- ErrorsCommitNothing. -/
theorem witness_error :
    ∃ t, exec .designFilter fresh = .next t ∧ t.fsm = .idle ∧ t.err ≠ .none :=
  ⟨_, exec_tiny .designFilter rfl, rfl, by decide⟩

/-- CommandsWriteOnlyTheirRegisters and ResultsDependOnInputsAlone. -/
theorem witness_two_states :
    (∃ t, exec .release fresh = .next t) ∧
      (∃ t, exec .release { fresh with buffer := { handle := 7, cap := 4096 } } = .next t) ∧
      commandWrites .release .bufHandle = true ∧ commandWrites .release .period = false :=
  ⟨⟨_, exec_tiny .release rfl⟩, ⟨_, exec_tiny .release rfl⟩, rfl, rfl⟩

/-- HandleStaysValidUntilTheNextSynthesis: each of the three arrivals ends a valid handle. -/
theorem witness_handle :
    handleValid 0x00010000 holding = true ∧
      nextIs (fun t => !handleValid 0x00010000 t) (step (holding.withFetchWord 32 5)) = true ∧
      nextIs (fun t => !handleValid 0x00010000 t) (step (holding.withFetchWord 32 6)) = true ∧
      nextIs (fun t => !handleValid 0x00010000 t) (step (arriving (.reset false) holding)) = true := by
  decide +kernel

/-- DoneRisesOnlyAtCompletion. -/
theorem witness_done_rises :
    fresh.done = false ∧ nextIs (fun t => t.done) (step (fresh.withFetchWord 32 0)) = true ∧
      generating.done = false ∧ nextIs (fun t => t.done) (step (arriving (.genDone 1) generating)) = true := by
  decide +kernel

/-- OverrunIsClearedByTheHostOnly. -/
theorem witness_overrun :
    nextIs (fun t => !t.ovr) (step (arriving (.hostWrite 0x008 32 4) { fresh with ovr := true })) = true ∧
      nextIs (fun t => !t.ovr) (step (arriving (.reset false) { fresh with ovr := true })) = true := by
  decide +kernel

end Sys2Proof.Tests
end

namespace Sys2Proof.Machine

/-! ## The construction parameters (00_scope.md R9) -/

@[simp] theorem offer_cfg (v : Word) (s : State) : (offer v s).cfg = s.cfg := by
  rcases offer_cases v s with ⟨i, -, h⟩ | ⟨e, -, h⟩ <;> simp [h]

@[simp] theorem synthGranted_cfg (size : Nat) (k : CommitSet) (h : Word) (s : State) :
    (synthGranted size k h s).cfg = s.cfg := by
  rw [synthGranted_eq]

/-- No event touches the construction parameters: a reset keeps them, and every other event writes other fields. -/
theorem takeEvent_keeps_cfg {e : Event} {s t : State} (h : takeEvent e s = .next t) : t.cfg = s.cfg := by
  rcases takeEvent_eq_next h with ⟨_, _, _, _, -, rfl⟩ | ⟨_, _, _, u, _, -, rfl, hu⟩ | ⟨rfl, -⟩ |
    ⟨_, _, -, -, rfl⟩ | ⟨_, _, _, -, -, -, -, rfl⟩ | ⟨-, -, rfl⟩ | ⟨_, -, -, rfl⟩ | ⟨_, -, rfl⟩
  case inr.inl =>
    rcases hu with rfl | ⟨-, -, rfl⟩ | ⟨-, -, rfl⟩ | ⟨-, rfl⟩ | ⟨-, -, -, rfl⟩ | ⟨-, _, rfl⟩ <;> simp
  all_goals simp

/-- Settles O20: every command and every event keeps the parameters, so every step does. -/
theorem configurationNeverChanges : Obligations.ConfigurationNeverChanges := by
  intro s t h
  refine step_keeps (P := fun u => u.cfg = s.cfg) (fun _ _ hu => hu) (fun _ _ hu => hu) ?_ ?_ rfl h
  · intro i u _ _ hu
    obtain ⟨-, -, hcfg, -⟩ := commandResult_frame i u
    exact hcfg.trans hu
  · intro e u v _ hu hv
    exact (takeEvent_keeps_cfg hv).trans hu

/-! ## The values of a filter design are in the range of their registers (41_filter.md R84 to R92) -/

/-- A value that its s16 field holds without loss (10_state.md R24). -/
def InS16 (v : Int) : Prop := -32768 ≤ v ∧ v ≤ 32767

/-- The prewarped cutoff of a well-formed configuration is at most 32767 (10_state.md R45, check 3). -/
theorem tanEntry_le {c : Config} (hc : c.wellFormed = true) (k : Nat) : tanEntry c k ≤ 32767 := by
  obtain ⟨-, -, ⟨-, htan⟩, -⟩ := wellFormed_parts hc
  unfold tanEntry
  by_cases hk : k < c.tanRom.length
  · exact htan _ (getD_mem_of_lt hk)
  · rw [List.getD_eq_default _ _ (by omega)]
    omega

/-- The two parts of a z-plane pole are saturated (41_filter.md R86). -/
theorem bilinear_range (s : Cpx) : InS16 (bilinear s).re ∧ InS16 (bilinear s).im :=
  ⟨sat16_range _, sat16_range _⟩

/-- The constant term of the expansion stays at 1.0 in Q14 (41_filter.md R88, R89). -/
theorem expand_c0_re (z1 z2 : Cpx) : (expand z1 z2).c0.re = 16384 := by
  have hshift : accShift = 1 := by decide
  show asr oneQ15 accShift = 16384
  rw [hshift]
  rfl

/-- The other two terms of the expansion are saturated sums (41_filter.md R78, R89). -/
theorem expand_range (z1 z2 : Cpx) : InS16 (expand z1 z2).c1.re ∧ InS16 (expand z1 z2).c2.re :=
  ⟨sat16_range _, sat16_range _⟩

/-- A numerator coefficient is saturated (41_filter.md R91). -/
theorem normCoef_range (c : Config) (sumA : Int) (b : Nat) : InS16 (normCoef c sumA b) := sat16_range _

/-- The values of a design are those its registers can hold: A0 is its constant, the prewarped cutoff is a ROM entry,
and the rest is saturated (41_filter.md R84 to R92). -/
structure Design.Fits (d : Design) : Prop where
  wc   : d.wc ≤ 32767
  z1   : InS16 d.z1.re ∧ InS16 d.z1.im
  z2   : InS16 d.z2.re ∧ InS16 d.z2.im
  a0   : d.a0 = 16384
  a1   : InS16 d.a1
  a2   : InS16 d.a2
  sumA : d.sumA = d.a0 + d.a1 + d.a2
  b0   : InS16 d.b0
  b1   : InS16 d.b1
  b2   : InS16 d.b2

/-- Every design under a well-formed configuration fits its registers. -/
theorem designAt_fits {c : Config} (hc : c.wellFormed = true) (tidx : Nat) : (designAt c tidx).Fits := by
  obtain ⟨ha1, ha2⟩ := expand_range (designAt c tidx).z1 (designAt c tidx).z2
  exact {
    wc := tanEntry_le hc tidx
    z1 := bilinear_range _
    z2 := bilinear_range _
    a0 := expand_c0_re (designAt c tidx).z1 (designAt c tidx).z2
    a1 := ha1
    a2 := ha2
    sumA := rfl
    b0 := normCoef_range _ _ _
    b1 := normCoef_range _ _ _
    b2 := normCoef_range _ _ _ }

/-- The sum of a design's denominator coefficients fits FD_SUM_A (41_filter.md R92). -/
theorem Design.Fits.wrap32_sumA {d : Design} (h : d.Fits) : (wrap32 d.sumA).toInt = d.sumA := by
  have ha0 := h.a0
  obtain ⟨hlo1, hhi1⟩ := h.a1
  obtain ⟨hlo2, hhi2⟩ := h.a2
  have hsum := h.sumA
  unfold wrap32
  rw [BitVec.toInt_ofInt]
  exact Int.bmod_eq_of_le (by omega) (by omega)

/-- The prewarped cutoff of a design fits FD_WC (41_filter.md R92). -/
theorem Design.Fits.fdWc_toNat {d : Design} (h : d.Fits) : (designRegs d).fdWc.toNat = d.wc := by
  have hwc := h.wc
  simp only [designRegs, BitVec.toNat_ofNat]
  omega

/-- With SAMPLE_RATE > 0, DESIGN_FILTER commits its design and completes (41_filter.md R93). -/
theorem commandResult_designFilter {s : State} (hsr : s.inputs.sampleRate ≠ 0) :
    commandResult .designFilter s = complete .none (commitFilter (filterRegsOf s.cfg s.inputs) s) :=
  if_neg hsr

/-- Settles O24: the design fits its registers, so each narrowing but that of FD_TIDX is exact. -/
theorem designFilterCommitsTheDesign : Obligations.DesignFilterCommitsTheDesign := by
  intro s hw hsr sr cutoff fc d f
  have hfits : d.Fits := designAt_fits hw _
  have hexec : exec .designFilter s = .next { s with filter := f, done := true, err := .none, fsm := .idle } := by
    rw [exec_eq, guarded_of_wf hw, commandResult_designFilter hsr]
    rfl
  obtain ⟨hz1re, hz1im⟩ := hfits.z1
  obtain ⟨hz2re, hz2im⟩ := hfits.z2
  exact ⟨hexec, rfl, s16_toInt hfits.b0, s16_toInt hfits.b1, s16_toInt hfits.b2, hfits.a0,
    s16_toInt hfits.a1, s16_toInt hfits.a2, hfits.fdWc_toNat, tidxField_toNat d.tidx,
    s16_toInt hz1re, s16_toInt hz1im, s16_toInt hz2re, s16_toInt hz2im, hfits.wrap32_sumA⟩

/-! ## The registers a command writes read from one part of the state (30_encoding.md R68) -/

/-- PERIOD and FREQ read the note outputs alone. -/
theorem regValue_congr_noteOut {r : Reg} (hr : commandWrites .resolveNote r = true) {s t : State}
    (h : s.noteOut = t.noteOut) : regValue r s = regValue r t := by
  cases r with
  | period | freq => simp only [regValue, h]
  | _ => exact absurd hr Bool.false_ne_true

/-- A register of a filter design reads the coefficients and diagnostics alone. -/
theorem regValue_congr_filter {r : Reg} (hr : commandWrites .designFilter r = true) {s t : State}
    (h : s.filter = t.filter) : regValue r s = regValue r t := by
  cases r with
  | b0 | b1 | b2 | a1 | a2 | fdWc | fdTidx | z1Re | z1Im | z2Re | z2Im | fdSumA => simp only [regValue, h]
  | _ => exact absurd hr Bool.false_ne_true

/-- An ENV_LUT entry reads its entry of the RAM alone. -/
theorem regValue_congr_envLut {r : Reg} (hr : commandWrites .buildEnv r = true) {s t : State}
    (h : ∀ i < 256, s.envLut.read i = t.envLut.read i) : regValue r s = regValue r t := by
  cases r with
  | envLut i => simp only [regValue, h i.val i.isLt]
  | _ => exact absurd hr Bool.false_ne_true

/-- A register of the derivation set reads that set alone. -/
theorem regValue_congr_derived {r : Reg} (hr : commandWrites .derive r = true) {s t : State}
    (h : s.derived = t.derived) : regValue r s = regValue r t := by
  cases r with
  | sampleCount | osc1Period | osc2Period | osc1Pinv | osc2Pinv | envStep | amp1 | amp2 | pbWaves =>
    simp only [regValue, h]
  | _ => exact absurd hr Bool.false_ne_true

/-- BUF_HANDLE and BUF_CAP read the buffer registers alone. -/
theorem regValue_congr_buffer {r : Reg} (hr : commandWrites .release r = true) {s t : State}
    (h : s.buffer = t.buffer) : regValue r s = regValue r t := by
  cases r with
  | bufHandle | bufCap => simp only [regValue, h]
  | _ => exact absurd hr Bool.false_ne_true

/-- A whole table written to a canonical RAM hides what the RAM held (42_envelope.md R100). -/
theorem Memory.read_storeFrom_full {m : Memory} (hm : m.wf = true) {t : List Half} (ht : t.length = 256) {i : Nat}
    (hi : i < 256) : (m.storeFrom 0 t).read i = t.getD i 0 := by
  rw [Memory.read_storeFrom hm, if_pos (by omega), Nat.sub_zero]

/-- Settles O55, by cases on the command: each one's written registers read one part of the next state, and that part
is a function of the parameters and the inputs. -/
theorem resultsDependOnInputsAlone : Obligations.ResultsDependOnInputsAlone := by
  intro i s₁ s₂ t₁ t₂ hsynth hrate hcfg hin hwf₁ hwf₂ h₁ h₂ r hr
  obtain ⟨-, rfl⟩ := exec_eq_next h₁
  obtain ⟨-, rfl⟩ := exec_eq_next h₂
  cases i with
  | nop => exact absurd hr Bool.false_ne_true
  | resolveNote =>
    apply regValue_congr_noteOut hr
    simp [commandResult, hcfg, hin]
  | designFilter =>
    apply regValue_congr_filter hr
    have hrate₁ := hrate rfl
    have hrate₂ : s₂.inputs.sampleRate ≠ 0 := hin ▸ hrate₁
    simp [commandResult_designFilter hrate₁, commandResult_designFilter hrate₂, hcfg, hin]
  | buildEnv =>
    apply regValue_congr_envLut hr
    intro k hk
    simp [commandResult, Memory.read_storeFrom_full hwf₁ (envTable_length _ _ _) hk,
      Memory.read_storeFrom_full hwf₂ (envTable_length _ _ _) hk, hcfg, hin]
  | derive =>
    apply regValue_congr_derived hr
    simp [commandResult, hcfg, hin]
  | synthesize => exact absurd rfl hsynth
  | release =>
    apply regValue_congr_buffer hr
    simp [commandResult]

end Sys2Proof.Machine

namespace Sys2Proof.Machine

/-! ## The state invariant (10_state.md R47, 43_orchestrator.md R109) -/

/-- An idle block has no pending request and no generation under way, and BUSY = 0, so the invariant is that of its
registers and of the live handles. -/
theorem State.Inv.of_idle {s : State} (hidle : s.fsm = .idle) (hmem : s.envLut.wf = true) (hbuf : BufferInv s)
    (hder : DerivedInv s) (hlive : LiveInv s) : State.Inv s where
  memory := hmem
  buffer := hbuf
  derived := hder
  pending := fun size k hwait => by rw [hidle] at hwait; cases hwait
  generation := fun hgen => by rw [hidle] at hgen; cases hgen
  busy := fun hbusy => by rw [(busy_eq_false_iff s).mpr hidle] at hbusy; cases hbusy
  live := hlive

/-- The inputs, the note outputs, the filter registers, CTRL, OVR and the model's own fields but the live handles do
not bear on the invariant. -/
theorem State.Inv.congr {s t : State} (h : State.Inv s) (hcfg : t.cfg = s.cfg) (hmem : t.envLut = s.envLut)
    (hbuf : t.buffer = s.buffer) (hder : t.derived = s.derived) (hfsm : t.fsm = s.fsm) (hlive : t.live = s.live)
    (hbusy : BusyInv t) : State.Inv t where
  memory := hmem ▸ h.memory
  buffer := by simpa only [BufferInv, hbuf] using h.buffer
  derived := by simpa only [DerivedInv, hcfg, hder] using h.derived
  pending := by simpa only [PendingInv, hcfg, hfsm] using h.pending
  generation := by simpa only [GenerationInv, hcfg, hfsm, hbuf, hder] using h.generation
  busy := hbusy
  live := by simpa only [LiveInv, hbuf, hlive] using h.live

/-- A block with STATUS.BUSY = 0 owes nothing to the flags. -/
theorem BusyInv.of_idle {s : State} (hidle : busy s = false) : BusyInv s := fun hbusy => by
  rw [hidle] at hbusy
  cases hbusy

/-- No buffer satisfies the buffer invariant (10_state.md R48). -/
theorem BufferInv.of_noBuffer {s : State} (h : s.buffer = noBuffer) : BufferInv s := by
  unfold BufferInv
  rw [h]
  decide

/-- Settles O51: right after reset the block is idle, without a buffer and with no live handle. -/
theorem invariantHoldsAtReset : Obligations.InvariantHoldsAtReset :=
  State.Inv.of_idle rfl rfl (BufferInv.of_noBuffer rfl) (.inl rfl) ⟨fun h => absurd rfl h, List.not_mem_nil⟩

/-- A reset gives every state the invariant, whichever handles the allocator still holds live. -/
theorem resetBlock_inv {s : State} (h : (0 : Word) ∉ s.live) (b : Bool) : State.Inv (resetBlock b s) := by
  refine State.Inv.of_idle rfl rfl (BufferInv.of_noBuffer rfl) (.inl rfl) ⟨fun hn => absurd rfl hn, ?_⟩
  cases b
  · exact h
  · exact List.not_mem_nil

/-! ### What a derivation computes is in range (43_orchestrator.md R102 to R106) -/

/-- SAMPLE_COUNT holds the sample count without loss. -/
theorem deriveRegs_sampleCount_toNat (c : Config) (x : Inputs) :
    (deriveRegs c x).sampleCount.toNat = sampleCountOf x := by
  have := sampleCount_range (sampleRateOf x) (durationOf x)
  exact Nat.mod_eq_of_lt (by unfold sampleCountOf; omega)

/-- An oscillator period under SAMPLE_RATE is at least 1 and fits its register. -/
theorem oscPeriod_inputs_range (x : Inputs) (f : Nat) :
    1 ≤ oscPeriod (sampleRateOf x) f ∧ oscPeriod (sampleRateOf x) f < 4294967296 :=
  oscPeriod_range x.sampleRate.isLt f

/-- Every derivation under a well-formed configuration is in range. -/
theorem deriveRegs_inRange {c : Config} (hc : c.wellFormed = true) (x : Inputs) :
    DerivedInRange c (deriveRegs c x) := by
  obtain ⟨-, -, -, -, -, -, hmax, -⟩ := wellFormed_parts hc
  obtain ⟨heven, hlo, hhi⟩ := sampleCount_range (sampleRateOf x) (durationOf x)
  have hp1 := oscPeriod_inputs_range x (osc1FreqOf x)
  have hp2 := oscPeriod_inputs_range x (osc2FreqOf x)
  have hi1 := periodInverse_range hp1.1
  have hi2 := periodInverse_range hp2.1
  have hstep := envStep_range ⟨hlo, hhi⟩
  have hsum := mixAmp_sum c (mixOf x)
  have hcount : CountInRange (deriveRegs c x).sampleCount.toNat := by
    rw [deriveRegs_sampleCount_toNat]
    exact ⟨heven, hlo, hhi⟩
  refine ⟨hcount, ?_⟩
  simp only [deriveRegs, sampleCountOf, BitVec.toNat_ofNat]
  omega

/-! ### Every command keeps the invariant -/

/-- The messages and the live handles after the held handle, if any, is released. -/
theorem releaseHeld_live (s : State) :
    (releaseHeld s).live = if s.buffer.handle = 0 then s.live else s.live.erase s.buffer.handle := by
  rcases releaseHeld_cases s with ⟨h0, h⟩ | ⟨h0, h⟩
  · rw [h, if_pos h0]
  · rw [h, if_neg h0, releaseHandle_live]

/-- A buffer of an allocation class, at a handle that is not 0, satisfies the buffer invariant
(43_orchestrator.md R108, R109). -/
theorem BufferInv.of_class {s : State} {h : Word} {size : Nat} (hs : s.buffer = ⟨h, BitVec.ofNat 32 size⟩)
    (hh : h ≠ 0) (hmod : size % 4096 = 0) (hlo : 4096 ≤ size) (hhi : size ≤ 32768) : BufferInv s := by
  have hcap : (BitVec.ofNat 32 size).toNat = size := Nat.mod_eq_of_lt (by omega)
  have hcap0 : BitVec.ofNat 32 size ≠ 0 := fun e => by
    have : (BitVec.ofNat 32 size).toNat = 0 := congrArg BitVec.toNat e
    omega
  unfold BufferInv
  rw [hs]
  exact ⟨iff_of_false hh hcap0, by rw [hcap]; exact hmod, by rw [hcap]; exact hhi⟩

/-- The commit point keeps the invariant when the commit set is in range, the buffer holds its samples and is live,
and acceptance has cleared DONE and ERR (43_orchestrator.md R115). -/
theorem synthCommit_inv {s : State} {k : CommitSet} {b : BufferRegs} (hmem : s.envLut.wf = true)
    (hbuf : BufferInv (commitBuffer b s)) (hlive : LiveInv (commitBuffer b s)) (hhandle : b.handle ≠ 0)
    (hk : DerivedInRange s.cfg k.derived) (hroom : k.derived.sampleCount.toNat ≤ b.cap.toNat)
    (hflags : s.done = false ∧ s.err = .none) : State.Inv (synthCommit k b s) := by
  rw [synthCommit_eq]
  exact {
    memory := Memory.wf_storeFrom hmem k.lut 0
    buffer := hbuf
    derived := .inr hk
    pending := fun _ _ hwait => by cases hwait
    generation := fun _ => ⟨hhandle, hk, hroom⟩
    busy := fun _ => hflags
    live := hlive }

/-- A request for the class of a derivation in range keeps the invariant: nothing but the command state machine
changes (43_orchestrator.md R114). -/
theorem requestBuffer_inv {s : State} (h : State.Inv s) {k : CommitSet} (hk : DerivedInRange s.cfg k.derived)
    (hlut : k.lut.length = 256) (hflags : s.done = false ∧ s.err = .none) :
    State.Inv (requestBuffer (allocSize k.derived.sampleCount.toNat) k s) where
  memory := h.memory
  buffer := h.buffer
  derived := h.derived
  pending := fun size k' hwait => by
    obtain ⟨rfl, rfl⟩ := Fsm.allocWait.inj hwait
    obtain ⟨hmod, hmin, hmax, -⟩ := allocSize_range hk.1.2
    exact ⟨rfl, hmod, hmin, hmax, hlut, hk⟩
  generation := fun hgen => by cases hgen
  busy := fun _ => hflags
  live := h.live

/-- The first phase of SYNTHESIZE keeps the invariant: it ends with ERR_ARG, asks for a buffer of the class, or
commits to the buffer it holds, whose capacity is the class's (43_orchestrator.md R114). -/
theorem synthesize_inv {s : State} (hw : s.cfg.wellFormed = true) (h : State.Inv s)
    (hflags : s.done = false ∧ s.err = .none) : State.Inv (synthesize s) := by
  have hk : DerivedInRange s.cfg (synthCompute s.cfg s.inputs).derived := deriveRegs_inRange hw s.inputs
  have hcount : (synthCompute s.cfg s.inputs).derived.sampleCount.toNat = sampleCountOf s.inputs :=
    deriveRegs_sampleCount_toNat s.cfg s.inputs
  rcases synthesize_cases s with ⟨-, e⟩ | ⟨-, -, e⟩ | ⟨-, hclass, e⟩
  · rw [e]
    exact State.Inv.of_idle rfl h.memory h.buffer h.derived h.live
  · rw [e, ← hcount]
    exact requestBuffer_inv h hk (envTable_length _ _ _) hflags
  · obtain ⟨-, hmin, -, hroom⟩ := allocSize_range (sampleCount_range (sampleRateOf s.inputs) (durationOf s.inputs)).2
    have hcap : s.buffer.cap ≠ 0 := fun e0 => by
      rw [e0] at hclass
      have : allocSize (sampleCountOf s.inputs) = 0 := hclass
      unfold sampleCountOf at this
      omega
    rw [e]
    refine synthCommit_inv h.memory h.buffer h.live (fun h0 => hcap (h.buffer.1.mp h0)) hk ?_ hflags
    rw [hcount, ← hclass]
    exact hroom

/-- RELEASE leaves no buffer, and the handles still live are among those that were. -/
theorem release_inv {s : State} (h : State.Inv s) : State.Inv (commandResult .release s) := by
  obtain ⟨-, hzero⟩ := h.live
  refine State.Inv.of_idle rfl ?_ (BufferInv.of_noBuffer rfl) ?_ ⟨fun hn => absurd rfl hn, ?_⟩
  · simpa [commandResult] using h.memory
  · simpa [commandResult, DerivedInv] using h.derived
  · simp only [commandResult, complete_live, commitBuffer_live, releaseHeld_live]
    split
    · exact hzero
    · exact fun hmem => hzero (List.mem_of_mem_erase hmem)

/-- Every command that runs from RUN keeps the invariant. -/
theorem commandResult_inv {i : Instr} {s : State} (hw : s.cfg.wellFormed = true) (hrun : s.fsm = .run i)
    (h : State.Inv s) : State.Inv (commandResult i s) := by
  cases i with
  | nop => exact State.Inv.of_idle rfl h.memory h.buffer h.derived h.live
  | resolveNote => exact State.Inv.of_idle rfl h.memory h.buffer h.derived h.live
  | designFilter =>
    simp only [commandResult]
    split
    · exact State.Inv.of_idle rfl h.memory h.buffer h.derived h.live
    · exact State.Inv.of_idle rfl h.memory h.buffer h.derived h.live
  | buildEnv => exact State.Inv.of_idle rfl (Memory.wf_storeFrom h.memory _ 0) h.buffer h.derived h.live
  | derive => exact State.Inv.of_idle rfl h.memory h.buffer (.inr (deriveRegs_inRange hw s.inputs)) h.live
  | synthesize => exact synthesize_inv hw h (h.busy (by unfold busy; rw [hrun]))
  | release => exact release_inv h

/-! ### Every event keeps the invariant -/

/-- A granted buffer is committed with the invariant: the new handle was not live, so it is not the one released
(43_orchestrator.md R114, R115). -/
theorem synthGranted_inv {s : State} {size : Nat} {k : CommitSet} {g : Word} (h : State.Inv s)
    (hwait : s.fsm = .allocWait size k) (hg : g ≠ 0) (hnew : g ∉ s.live) : State.Inv (synthGranted size k g s) := by
  obtain ⟨hsize, hmod, hmin, hmax, -, hk⟩ := h.pending size k hwait
  obtain ⟨hheld, hzero⟩ := h.live
  have hcap : (BitVec.ofNat 32 size).toNat = size := Nat.mod_eq_of_lt (by omega)
  have hroom : k.derived.sampleCount.toNat ≤ (BitVec.ofNat 32 size).toNat := by
    obtain ⟨-, -, -, hroom⟩ := allocSize_range hk.1.2
    rw [hcap, hsize]
    exact hroom
  have hlive : g ∈ (releaseHeld (grantHandle g s)).live ∧ (0 : Word) ∉ (releaseHeld (grantHandle g s)).live := by
    have hzero' : (0 : Word) ∉ g :: s.live := by simpa using ⟨Ne.symm hg, hzero⟩
    rw [releaseHeld_live, grantHandle_buffer, grantHandle_live]
    by_cases hold : s.buffer.handle = 0
    · rw [if_pos hold]
      exact ⟨List.mem_cons_self, hzero'⟩
    · rw [if_neg hold]
      have hne : g ≠ s.buffer.handle := fun e => hnew (e ▸ hheld hold)
      exact ⟨(List.mem_erase_of_ne hne).mpr List.mem_cons_self, fun hm => hzero' (List.mem_of_mem_erase hm)⟩
  obtain ⟨hgLive, hzeroLive⟩ := hlive
  refine synthCommit_inv ?_ (BufferInv.of_class rfl hg hmod hmin hmax) ⟨fun _ => hgLive, hzeroLive⟩ hg ?_ hroom ?_
  · simpa using h.memory
  · simpa using hk
  · simpa using h.busy (by unfold busy; rw [hwait])

/-- A word offered to CMD keeps the invariant: it is accepted with DONE and ERR cleared, or rejected in IDLE. -/
theorem offer_inv {s : State} (h : State.Inv s) (v : Word) : State.Inv (offer v s) := by
  rcases offer_cases v s with ⟨i, -, e⟩ | ⟨_, -, e⟩
  · rw [e]
    exact {
      memory := h.memory
      buffer := h.buffer
      derived := h.derived
      pending := fun _ _ hwait => by cases hwait
      generation := fun hgen => by cases hgen
      busy := fun _ => ⟨rfl, rfl⟩
      live := h.live }
  · rw [e]
    exact State.Inv.of_idle rfl h.memory h.buffer h.derived h.live

/-- The host can only clear DONE, so a write to STATUS keeps the invariant. -/
theorem writeStatus_inv {s : State} (h : State.Inv s) (v : Word) : State.Inv (writeStatus v s) := by
  refine h.congr rfl rfl rfl rfl rfl rfl fun hbusy => ?_
  obtain ⟨hdone, herr⟩ := h.busy hbusy
  exact ⟨by simp [hdone], herr⟩

/-- Every event that takes effect keeps the invariant. -/
theorem takeEvent_inv {e : Event} {s t : State} (h : State.Inv s) (he : takeEvent e s = .next t) : State.Inv t := by
  rcases takeEvent_eq_next he with ⟨_, _, _, _, -, rfl⟩ | ⟨_, _, v, u, r, -, rfl, hu⟩ | ⟨rfl, -⟩ |
    ⟨_, _, -, -, rfl⟩ | ⟨_, _, _, hwait, -, hg, hnew, rfl⟩ | ⟨-, -, rfl⟩ | ⟨_, -, -, rfl⟩ | ⟨b, -, rfl⟩
  · exact h.congr rfl rfl rfl rfl rfl rfl h.busy
  · have hinv : State.Inv u := by
      rcases hu with rfl | ⟨-, -, rfl⟩ | ⟨-, -, rfl⟩ | ⟨-, rfl⟩ | ⟨-, -, -, rfl⟩ | ⟨-, _, rfl⟩
      · exact h
      · exact h.congr rfl rfl rfl rfl rfl rfl h.busy
      · exact writeStatus_inv h v
      · exact h.congr rfl rfl rfl rfl rfl rfl h.busy
      · exact offer_inv h v
      · exact h.congr rfl rfl rfl rfl rfl rfl h.busy
    exact hinv.congr rfl rfl rfl rfl rfl rfl hinv.busy
  · exact h
  · exact State.Inv.of_idle rfl h.memory h.buffer h.derived h.live
  · exact synthGranted_inv h hwait hg hnew
  · exact State.Inv.of_idle rfl h.memory h.buffer h.derived h.live
  · exact h.congr rfl rfl rfl rfl rfl rfl h.busy
  · exact resetBlock_inv h.live.2 b

/-- Settles O52: every command and every event keeps the invariant, and the list of arrivals and the reply do not
bear on it. -/
theorem everyStepKeepsTheInvariant : Obligations.EveryStepKeepsTheInvariant := fun _ _ hs h =>
  step_keeps (fun _ _ hu => hu.congr rfl rfl rfl rfl rfl rfl hu.busy)
    (fun _ _ hu => hu.congr rfl rfl rfl rfl rfl rfl hu.busy)
    (fun _ _ hw hrun hu => commandResult_inv hw hrun hu) (fun _ _ _ _ hu he => takeEvent_inv hu he) hs h

/-! ## The register window: offsets, fields and values (10_state.md R23 to R29) -/

/-- The window gives a register's offset back to the register (10_state.md R24). -/
theorem regAt_regOffset (r : Reg) : regAt (regOffset r) = some r := by
  cases r with
  | envLut i =>
    have hi := i.isLt
    unfold regAt
    rw [regOffset_envLut, dif_pos (by omega), if_pos (by omega)]
    congr 2
    exact Fin.ext (by simp)
  | _ => rfl

/-- An offset names a register only if it is that register's (10_state.md R23). -/
theorem regOffset_of_regAt {off : Nat} {r : Reg} (h : regAt off = some r) : regOffset r = off := by
  unfold regAt at h
  split at h
  · split at h
    · injection h with e
      rw [← e, regOffset_envLut]
      simp only
      omega
    · cases h
  · simpa using List.find?_some h

/-- Every offset is in the window and a multiple of 4 (20_memory.md R50, R52). -/
theorem regOffset_range (r : Reg) : regOffset r < 2048 ∧ regOffset r % 4 = 0 := by
  cases r with
  | envLut i =>
    rw [regOffset_envLut]
    omega
  | _ => exact ⟨by decide, by decide⟩

/-- Settles O6: the written-out offsets are those of the definition, and `regAt` and `regOffset` undo each other. -/
theorem registerOffsetsDoNotAlias : Obligations.RegisterOffsetsDoNotAlias :=
  ⟨⟨rfl, rfl, rfl, rfl, regOffset_envLut⟩,
    fun r => ⟨regAt_regOffset r, regOffset_range r⟩,
    fun _ _ h => (regOffset_of_regAt h).symm⟩

/-- A sign-extended field keeps its signed value (10_state.md R24). -/
theorem sext_toInt (v : Half) : (sext v).toInt = v.toInt := BitVec.toInt_signExtend_of_le (by omega)

/-- CTRL reads its one bit IE (10_state.md R26). -/
theorem ctrlWord_toNat (s : State) : (ctrlWord s).toNat = if s.ctrlIE then 1 else 0 := by
  unfold ctrlWord
  cases s.ctrlIE <;> rfl

/-- Settles O8: each s16 register is sign-extended, each narrower one zero-extended, and a whole word is itself. -/
theorem registerValuesExtendTheirFields : Obligations.RegisterValuesExtendTheirFields := by
  intro s
  have hzext {n : Nat} (v : BitVec n) (hn : n ≤ 32 := by omega) : (v.setWidth 32).toNat = v.toNat :=
    BitVec.toNat_setWidth_of_le hn
  refine ⟨?signed, ?unsigned, ⟨rfl, rfl, rfl, rfl, rfl, rfl, rfl, rfl, rfl, rfl, rfl, rfl, rfl, rfl⟩,
    rfl, rfl, rfl, rfl⟩
  case signed =>
    exact ⟨sext_toInt _, sext_toInt _, sext_toInt _, sext_toInt _, sext_toInt _, sext_toInt _, sext_toInt _,
      sext_toInt _, sext_toInt _⟩
  case unsigned =>
    exact ⟨hzext _, hzext _, hzext _, hzext _, hzext _, hzext _, hzext _, hzext _, hzext _, hzext _, hzext _, hzext _,
      hzext _, hzext _, fun _ => hzext _, ctrlWord_toNat s⟩

/-- BUSY = 1 exactly when the state is not IDLE (10_state.md R46). -/
theorem busy_eq_true_iff (s : State) : busy s = true ↔ s.fsm ≠ .idle := by
  rw [← Bool.not_eq_false, ne_eq, busy_eq_false_iff]

/-- The bits of the STATUS word, from its fields as they are laid out (10_state.md R27). -/
theorem statusWord_getLsbD (s : State) (i : Nat) :
    (statusWord s).getLsbD i =
      if i = 0 then busy s else if i = 1 then s.done else if i = 2 then s.ovr else if i = 3 then false
      else if i < 8 then (errCode s.err).getLsbD (i - 4) else if i = 8 then bufValid s else false := by
  have hbit (b : Bool) : (bit b)[0] = b := by cases b <;> rfl
  simp only [statusWord, BitVec.getLsbD_append]
  match i with
  | 0 | 1 | 2 | 3 | 4 | 5 | 6 | 7 | 8 => simp [hbit]
  | i + 9 => simp

/-- STATUS.ERR is bits 7:4 (10_state.md R27). -/
theorem statusWord_err (s : State) : (statusWord s).extractLsb' 4 4 = errCode s.err := by
  apply BitVec.eq_of_getLsbD_eq
  intro i hi
  rw [BitVec.getLsbD_extractLsb', statusWord_getLsbD]
  grind

/-- Bits 31:9 of STATUS are 0 (10_state.md R27). -/
theorem statusWord_reserved (s : State) : (statusWord s).extractLsb' 9 23 = 0 := by
  apply BitVec.eq_of_getLsbD_eq
  intro i hi
  rw [BitVec.getLsbD_extractLsb', statusWord_getLsbD]
  grind

/-- Settles O9: each bit of the STATUS word is read off from its field. -/
theorem statusWordHasItsFields : Obligations.StatusWordHasItsFields := by
  refine ⟨⟨rfl, rfl, rfl, rfl⟩, fun s => ?_⟩
  have hcode : (errCode s.err).toNat ≤ 3 := by cases s.err <;> decide
  have hbufv : (statusWord s).getLsbD 8 = true ↔ s.buffer.handle ≠ 0 := by
    rw [statusWord_getLsbD]
    exact decide_eq_true_iff
  exact ⟨statusWord_getLsbD s 0, busy_eq_true_iff s, statusWord_getLsbD s 1, statusWord_getLsbD s 2,
    statusWord_getLsbD s 3, statusWord_err s, hcode, hbufv, statusWord_reserved s⟩

/-- A word narrowed to `n` bits and read back zero-extended is the word under the mask of its low `n` bits. -/
theorem setWidth_setWidth_eq_and (n : Nat) (v : Word) :
    (v.setWidth n).setWidth 32 = v &&& (BitVec.allOnes n).setWidth 32 := by
  apply BitVec.eq_of_getLsbD_eq
  intro i hi
  simp [hi, Bool.and_comm]

/-- An input register reads, right after a store, the word without its reserved bits (10_state.md R24, R29). -/
theorem regValue_storeInput_same {r : Reg} (hr : isInput r = true) (v : Word) (s : State) :
    regValue r { s with inputs := storeInput r v s.inputs } = v &&& inputMask r := by
  cases r with
  | note | gainDb | mix | waves => exact setWidth_setWidth_eq_and _ v
  | clockHz | sampleRate | cutoff | env | linGain | osc1Freq | osc2Freq | durationMs =>
    exact (BitVec.and_allOnes).symm
  | _ => exact absurd hr Bool.false_ne_true

/-- A store to an input register changes no other register (10_state.md R29). -/
theorem regValue_storeInput_of_ne {q r : Reg} (hne : q ≠ r) (v : Word) (s : State) :
    regValue q { s with inputs := storeInput r v s.inputs } = regValue q s := by
  cases q with
  | clockHz | note | sampleRate | cutoff | env | linGain | gainDb | osc1Freq | osc2Freq | durationMs | mix | waves =>
    cases r <;> first | rfl | exact absurd rfl hne
  | _ => rfl

/-- An aligned 32-bit access to a register is one the window serves (20_memory.md R52). -/
theorem accessWellFormed_regOffset (r : Reg) : accessWellFormed (regOffset r) 32 = true := by
  simp [accessWellFormed, (regOffset_range r).2]

/-- A 32-bit write at a register's offset (20_memory.md R52, R57). -/
theorem hostWrite_regOffset (r : Reg) (v : Word) (s : State) :
    hostWrite (regOffset r) 32 v s = .next (setReply .written (regWrite (regOffset r) v s)) := by
  unfold hostWrite
  rw [if_neg (by have := regOffset_range r; omega), if_pos (accessWellFormed_regOffset r)]

/-- A 32-bit write to an input register while BUSY = 0 stores it (10_state.md R29). -/
theorem hostWrite_input {r : Reg} (hr : isInput r = true) {s : State} (hidle : busy s = false) (v : Word) :
    hostWrite (regOffset r) 32 v s =
      .next (setReply .written { s with inputs := storeInput r v s.inputs }) := by
  have hne (q : Reg) (hq : isInput q = false) : r ≠ q := fun e => by rw [e, hq] at hr; cases hr
  rw [hostWrite_regOffset, regWrite_plain v s (regAt_regOffset r) (hne _ rfl) (hne _ rfl) (hne _ rfl), if_pos hr]
  unfold writeInput
  rw [hidle]
  rfl

/-- A 32-bit read at a register's offset that is not a free draw answers the register's value and changes nothing of
the block (20_memory.md R56). -/
theorem hostRead_regOffset {r : Reg} {s : State} (hfree : readIsFree r s = false) :
    hostRead (regOffset r) 32 s = .next (setReply (.data (regValue r s)) s) := by
  unfold hostRead regRead afterRead
  rw [if_neg (by have := regOffset_range r; omega), if_pos (accessWellFormed_regOffset r), regAt_regOffset]
  simp only [hfree]
  rfl

/-- The reply is no register. -/
@[simp] theorem regValue_setReply (q : Reg) (a : Reply) (s : State) : regValue q (setReply a s) = regValue q s := by
  cases q <;> rfl

/-- Settles O13: the write stores the word, and while BUSY = 0 no read is a free draw. -/
theorem inputRegisterReadsBackWhatWasWritten : Obligations.InputRegisterReadsBackWhatWasWritten := by
  intro s r v hr hidle
  refine ⟨_, hostWrite_input hr hidle v, ?_, fun q hne => ?_⟩
  · have hfree : readIsFree r (setReply .written { s with inputs := storeInput r v s.inputs }) = false := by
      have : busy (setReply .written { s with inputs := storeInput r v s.inputs }) = false := hidle
      rw [readIsFree, this, Bool.and_false]
    rw [hostRead_regOffset hfree, regValue_setReply, regValue_storeInput_same hr]
    rfl
  · rw [regValue_setReply, regValue_storeInput_of_ne hne]

/-! ## Ill-formed configurations and the bilinear divisor (10_state.md R45, 41_filter.md R85, R86) -/

/-- Settles O19: each of the eight checks is part of `wellFormed`, which guards every step and every command. -/
theorem illFormedConfigurationIsRefused : Obligations.IllFormedConfigurationIsRefused := by
  refine ⟨fun s hbad => ?_, by decide +kernel⟩
  have hw : s.cfg.wellFormed = false := by
    refine Bool.eq_false_iff.mpr fun hw => hbad ?_
    obtain ⟨hsin, hpoles, ⟨hsize, htan⟩, ⟨-, hperiod⟩, ⟨hdb, hmin, hmax, -, hentries⟩, hk, hamp, henv, -⟩ :=
      wellFormed_parts hw
    exact ⟨hsin, hpoles, ⟨htan, hsize⟩, fun row hrow => (hperiod row hrow).2,
      ⟨hdb, hmin, hmax, fun v hv => Nat.lt_succ_of_le (hentries v hv)⟩, hk, hamp, henv⟩
  exact ⟨guarded_of_not_wf hw _, fun i => by rw [exec_eq, guarded_of_not_wf hw]⟩

/-- A retained pole has a negative cosine, so scaled by a cutoff it is in the left half plane (41_filter.md R85). -/
theorem scaledPole_re_nonpos {c : Config} {k : Nat} (hk : k ∈ retainedPoles c) (wc : Nat) :
    (scaledPole c wc k).re ≤ 0 := by
  have hcos : cosEntry c (poleAngle c k) < 0 := by simpa using (List.mem_filter.mp hk).2
  have hprod : (wc : Int) * cosEntry c (poleAngle c k) ≤ 0 :=
    mul_nonpos_of_nonneg_of_nonpos (Int.natCast_nonneg wc) hcos.le
  simp only [scaledPole, asr]
  omega

/-- In the left half plane |1 - s| is at least 1 (41_filter.md R86). -/
theorem oneQ15_sq_le_bilinearD {p : Cpx} (hp : p.re ≤ 0) : oneQ15 * oneQ15 ≤ bilinearD p := by
  unfold bilinearD oneQ15
  nlinarith [mul_self_nonneg p.im, mul_self_nonneg p.re]

/-- Settles O30: two poles are retained by check 2 of R45, each with a negative cosine. -/
theorem bilinearDivisorIsPositive : Obligations.BilinearDivisorIsPositive := by
  intro c wc hc
  obtain ⟨-, hpoles, -⟩ := wellFormed_parts hc
  refine ⟨(List.length_map _).trans hpoles, fun p hp => ?_⟩
  obtain ⟨k, hk, rfl⟩ := List.mem_map.mp hp
  have hre := scaledPole_re_nonpos hk wc
  exact ⟨hre, oneQ15_sq_le_bilinearD hre⟩

/-! ## A step accepts and runs commands (30_encoding.md R66, 70_reset_and_hazards.md R145) -/

/-- A command word written to CMD while BUSY = 0 is accepted (30_encoding.md R66). -/
theorem takeEvent_commandWrite {s : State} {w : Word} {i : Instr} (hidle : busy s = false)
    (hdec : decode w = .ok i) :
    takeEvent (.hostWrite 0x00C 32 w) s = .next (setReply .written (accept i s)) := by
  have hoffer : regWrite (regOffset .cmd) w s = accept i s := by
    unfold regWrite
    rw [regAt_regOffset]
    simp only [writeCmd, offer, hidle, hdec]
    rfl
  exact (hostWrite_regOffset .cmd w s).trans (by rw [hoffer])

/-- The step of an arrival that takes effect: the block may act on the state after it. -/
theorem step_of_take {s u : State} {e : Event} {b : Bool} {rest : List Arrival} (hw : s.cfg.wellFormed = true)
    (hin : s.inbox = { event := e, runs := b } :: rest)
    (hu : takeEvent e { s with inbox := rest, reply := .none } = .next u) : step s = settle b u := by
  rw [step_of_arrival hw hin]
  exact stepArrival_of_take (s := { s with inbox := rest }) hu

/-- Where the schedule lets the block act, it progresses (log 2). -/
theorem settle_true (s : State) : settle true s = progress s := rfl

/-- Where the schedule holds the block, the state after the arrival stands (log 2). -/
theorem settle_false (s : State) : settle false s = .next s := rfl

/-- Settles O15: the arrival is accepted into RUN, and the block acts there. -/
theorem stepRunsTheDecodedCommand : Obligations.StepRunsTheDecodedCommand := by
  intro s w i rest hw hidle _ hdec hin
  rw [step_of_take hw hin (takeEvent_commandWrite (s := { s with inbox := rest, reply := .none }) hidle hdec)]
  exact progress_run (s := setReply .written (accept i { s with inbox := rest, reply := .none })) rfl

/-- No event but a reset ends a command in RUN: a write is lost while BUSY, and no agent is awaited
(10_state.md R29, R46). -/
theorem takeEvent_keeps_run {e : Event} {s t : State} {i : Instr} (hrun : s.fsm = .run i)
    (he : takeEvent e s = .next t) (hreset : ∀ a, e ≠ .reset a) : t.fsm = .run i := by
  have hbusy : busy s = true := by unfold busy; rw [hrun]
  rcases takeEvent_eq_next he with ⟨_, _, _, _, -, rfl⟩ | ⟨_, _, v, u, r, -, rfl, hu⟩ | ⟨rfl, -⟩ |
    ⟨_, _, hwait, -⟩ | ⟨_, _, _, hwait, -⟩ | ⟨-, hwait, -⟩ | ⟨_, -, hwait, -⟩ | ⟨b, rfl, -⟩
  · exact hrun
  · rcases hu with rfl | ⟨-, -, rfl⟩ | ⟨-, -, rfl⟩ | ⟨-, rfl⟩ | ⟨-, -, hidle, -⟩ | ⟨hidle, -⟩
    · exact hrun
    · exact hrun
    · exact hrun
    · exact hrun
    · rw [hbusy] at hidle; cases hidle
    · rw [hbusy] at hidle; cases hidle
  · exact hrun
  · rw [hrun] at hwait; cases hwait
  · rw [hrun] at hwait; cases hwait
  · rw [hrun] at hwait; cases hwait
  · rw [hrun] at hwait; cases hwait
  · exact absurd rfl (hreset b)

/-- Settles O16: with no arrival the block acts on its own; with one, `settle` says whether it acts. -/
theorem stepRunsAHeldCommand : Obligations.StepRunsAHeldCommand := by
  refine ⟨fun s i hw hrun hin => ?_, fun s w i rest hw hidle hdec hin => ?_, fun s u i e b rest hw hrun hin hu => ?_⟩
  · rw [step_of_no_arrival hw hin]
    exact progress_run (s := setReply .none s) hrun
  · exact step_of_take hw hin (takeEvent_commandWrite (s := { s with inbox := rest, reply := .none }) hidle hdec)
  · have hstep := step_of_take hw hin hu
    refine ⟨takeEvent_keeps_run (s := { s with inbox := rest, reply := .none }) hrun hu, ?_, ?_, ?_⟩
    · rintro rfl hrun'
      rw [hstep, settle_true, progress_run hrun']
    · rintro rfl hidle
      rw [hstep, settle_true, progress_wait (by simp [hidle])]
    · rintro rfl
      rw [hstep, settle_false]

/-! ## The frame of every command (30_encoding.md R68) -/

/-- Completion changes no register but STATUS (60_exceptions.md R121). -/
theorem regValue_complete {r : Reg} (hr : r ≠ .status) (e : ErrCode) (s : State) :
    regValue r (complete e s) = regValue r s := by
  cases r with
  | status => exact absurd rfl hr
  | _ => rfl

/-- The command state machine shows in STATUS alone (10_state.md R46). -/
theorem regValue_enter {r : Reg} (hr : r ≠ .status) (f : Fsm) (s : State) :
    regValue r (enter f s) = regValue r s := by
  cases r with
  | status => exact absurd rfl hr
  | _ => rfl

/-- A port message shows in no register. -/
theorem regValue_issue (r : Reg) (m : PortMessage) (s : State) : regValue r (issue m s) = regValue r s := by
  cases r <;> rfl

/-- A release shows in no register until BUF_HANDLE is written. -/
theorem regValue_releaseHeld (r : Reg) (s : State) : regValue r (releaseHeld s) = regValue r s := by
  rcases releaseHeld_cases s with ⟨-, h⟩ | ⟨-, h⟩
  · rw [h]
  · rw [h]
    cases r <;> rfl

/-- A note commit changes PERIOD and FREQ alone (40_note.md R76). -/
theorem regValue_commitNote {r : Reg} (hr : commandWrites .resolveNote r = false) (n : NoteRegs) (s : State) :
    regValue r (commitNote n s) = regValue r s := by
  cases r with
  | period | freq => exact absurd hr.symm Bool.false_ne_true
  | _ => rfl

/-- A filter commit changes the registers of a design alone (41_filter.md R92). -/
theorem regValue_commitFilter {r : Reg} (hr : commandWrites .designFilter r = false) (f : FilterRegs) (s : State) :
    regValue r (commitFilter f s) = regValue r s := by
  cases r with
  | b0 | b1 | b2 | a1 | a2 | fdWc | fdTidx | z1Re | z1Im | z2Re | z2Im | fdSumA =>
    exact absurd hr.symm Bool.false_ne_true
  | _ => rfl

/-- An envelope commit changes ENV_LUT alone (42_envelope.md R100). -/
theorem regValue_commitEnv {r : Reg} (hr : commandWrites .buildEnv r = false) (t : List Half) (s : State) :
    regValue r (commitEnv t s) = regValue r s := by
  cases r with
  | envLut => exact absurd hr.symm Bool.false_ne_true
  | _ => rfl

/-- A derivation commit changes the derivation set alone (43_orchestrator.md R111). -/
theorem regValue_commitDerived {r : Reg} (hr : commandWrites .derive r = false) (d : DerivedRegs) (s : State) :
    regValue r (commitDerived d s) = regValue r s := by
  cases r with
  | sampleCount | osc1Period | osc2Period | osc1Pinv | osc2Pinv | envStep | amp1 | amp2 | pbWaves =>
    exact absurd hr.symm Bool.false_ne_true
  | _ => rfl

/-- A buffer commit changes BUF_HANDLE, BUF_CAP and, in STATUS, BUFV alone (43_orchestrator.md R115, R118). -/
theorem regValue_commitBuffer {r : Reg} (hstatus : r ≠ .status) (hr : commandWrites .release r = false)
    (b : BufferRegs) (s : State) : regValue r (commitBuffer b s) = regValue r s := by
  cases r with
  | bufHandle | bufCap => exact absurd hr.symm Bool.false_ne_true
  | status => exact absurd rfl hstatus
  | _ => rfl

/-- A gain commit changes LIN_GAIN alone (43_orchestrator.md R115). -/
theorem regValue_commitGain {r : Reg} (hr : r ≠ .linGain) (g : Word) (s : State) :
    regValue r (commitGain g s) = regValue r s := by
  cases r with
  | linGain => exact absurd rfl hr
  | _ => rfl

/-- SYNTHESIZE writes what DESIGN_FILTER, BUILD_ENV, DERIVE and RELEASE write, and LIN_GAIN (30_encoding.md R68). -/
theorem commandWrites_of_not_synthesize {r : Reg} (hr : commandWrites .synthesize r = false) :
    commandWrites .designFilter r = false ∧ commandWrites .buildEnv r = false ∧ commandWrites .derive r = false ∧
      commandWrites .release r = false ∧ r ≠ .linGain := by
  cases r <;> first | exact absurd hr.symm Bool.false_ne_true | exact ⟨rfl, rfl, rfl, rfl, by decide⟩

/-- The commit point changes no register outside the write set of SYNTHESIZE (43_orchestrator.md R115). -/
theorem regValue_synthCommit {r : Reg} (hstatus : r ≠ .status) (hr : commandWrites .synthesize r = false)
    (k : CommitSet) (b : BufferRegs) (s : State) : regValue r (synthCommit k b s) = regValue r s := by
  obtain ⟨hfilter, henv, hderive, hbuffer, hgain⟩ := commandWrites_of_not_synthesize hr
  rw [synthCommit, regValue_enter hstatus, regValue_issue, regValue_commitBuffer hstatus hbuffer,
    regValue_commitFilter hfilter, regValue_commitEnv henv, regValue_commitGain hgain, regValue_commitDerived hderive]

/-- A command changes no register outside its write set (30_encoding.md R68). -/
theorem regValue_commandResult {i : Instr} {r : Reg} (hstatus : r ≠ .status) (hr : commandWrites i r = false)
    (s : State) : regValue r (commandResult i s) = regValue r s := by
  cases i with
  | nop => exact regValue_complete hstatus _ _
  | resolveNote => exact (regValue_complete hstatus _ _).trans (regValue_commitNote hr _ _)
  | designFilter =>
    simp only [commandResult]
    split
    · exact regValue_complete hstatus _ _
    · exact (regValue_complete hstatus _ _).trans (regValue_commitFilter hr _ _)
  | buildEnv => exact (regValue_complete hstatus _ _).trans (regValue_commitEnv hr _ _)
  | derive => exact (regValue_complete hstatus _ _).trans (regValue_commitDerived hr _ _)
  | synthesize =>
    show regValue r (synthesize s) = regValue r s
    rcases synthesize_cases s with ⟨-, h⟩ | ⟨-, -, h⟩ | ⟨-, -, h⟩
    · rw [h, raiseError, regValue_complete hstatus]
    · rw [h, requestBuffer, regValue_enter hstatus, regValue_issue]
    · rw [h, regValue_synthCommit hstatus hr]
  | release =>
    simp only [commandResult]
    rw [regValue_complete hstatus, regValue_commitBuffer hstatus hr, regValue_releaseHeld]

/-- ENV_LUT is written by BUILD_ENV and SYNTHESIZE alone (10_state.md R40). -/
theorem commandResult_envLut {i : Instr} (henv : i ≠ .buildEnv) (hsynth : i ≠ .synthesize) (s : State) :
    (commandResult i s).envLut = s.envLut := by
  cases i with
  | nop | resolveNote | derive => rfl
  | designFilter => simp only [commandResult]; split <;> rfl
  | release => simp [commandResult]
  | buildEnv => exact absurd rfl henv
  | synthesize => exact absurd rfl hsynth

/-- Settles O54: a command is a chain of commits, each of which has its own frame. -/
theorem commandsWriteOnlyTheirRegisters : Obligations.CommandsWriteOnlyTheirRegisters := by
  intro i s t h
  obtain ⟨-, rfl⟩ := exec_eq_next h
  exact ⟨fun r hstatus hr => regValue_commandResult hstatus hr s,
    fun henv hsynth a => by rw [commandResult_envLut henv hsynth], commandResult_frame i s⟩

/-! ## Who changes the flags (10_state.md R27) -/

/-- The block's own action does not touch OVR (60_exceptions.md R121). -/
theorem settle_ovr {b : Bool} {s t : State} (h : settle b s = .next t) : t.ovr = s.ovr := by
  rcases settle_eq_next h with rfl | ⟨i, -, -, -, rfl⟩
  · rfl
  · exact (commandResult_frame i s).1

/-- An event that clears OVR is a reset or a 1 written to bit 2 of STATUS. -/
theorem takeEvent_clears_ovr {e : Event} {s t : State} (he : takeEvent e s = .next t) (hs : s.ovr = true)
    (ht : t.ovr = false) : (∃ a, e = .reset a) ∨ ∃ v : Word, e = .hostWrite 0x008 32 v ∧ v.getLsbD 2 = true := by
  have hkept {P : Prop} (hovr : t.ovr = s.ovr) : P := by
    rw [hovr, hs] at ht
    cases ht
  rcases takeEvent_eq_next he with ⟨_, _, _, _, -, rfl⟩ | ⟨_, _, v, u, r, rfl, rfl, hu⟩ | ⟨rfl, -⟩ |
    ⟨_, _, -, -, rfl⟩ | ⟨_, _, _, -, -, -, -, rfl⟩ | ⟨-, -, rfl⟩ | ⟨_, -, -, rfl⟩ | ⟨a, rfl, -⟩
  · exact hkept rfl
  · rcases hu with rfl | ⟨-, -, rfl⟩ | ⟨hoff, rfl, rfl⟩ | ⟨-, rfl⟩ | ⟨-, -, -, rfl⟩ | ⟨-, _, rfl⟩
    · exact hkept rfl
    · exact hkept rfl
    · obtain rfl := regOffset_of_regAt hoff
      exact .inr ⟨v, rfl, by simpa [hs] using ht⟩
    · cases ht
    · exact hkept (by rcases offer_cases v s with ⟨_, -, h⟩ | ⟨_, -, h⟩ <;> simp [h])
    · exact hkept rfl
  · exact hkept rfl
  · exact hkept rfl
  · exact hkept (by simp [synthGranted_eq])
  · exact hkept rfl
  · exact hkept rfl
  · exact .inl ⟨a, rfl⟩

/-- Settles O58: the block's own action keeps OVR, so the arrival cleared it. -/
theorem overrunIsClearedByTheHostOnly : Obligations.OverrunIsClearedByTheHostOnly := by
  intro s t h hs ht
  obtain ⟨-, ⟨-, hp⟩ | ⟨a, rest, u, hin, hu, hp⟩⟩ := step_eq_next h
  · have hovr : t.ovr = s.ovr := settle_ovr (s := setReply .none s) ((settle_true _).trans hp)
    rw [hovr, hs] at ht
    cases ht
  · refine ⟨a.event, a.runs, rest, hin, takeEvent_clears_ovr hu hs ?_⟩
    rw [← settle_ovr hp, ht]

/-- A command raises DONE only where it completes: a SYNTHESIZE that goes on to wait leaves DONE alone. -/
theorem commandResult_done_rises {i : Instr} {s : State} (hs : s.done = false)
    (ht : (commandResult i s).done = true) : (commandResult i s).fsm = .idle := by
  cases i with
  | nop | resolveNote | buildEnv | derive | release => rfl
  | designFilter => simp only [commandResult]; split <;> rfl
  | synthesize =>
    change (synthesize s).done = true at ht
    show (synthesize s).fsm = .idle
    rcases synthesize_cases s with ⟨-, h⟩ | ⟨-, -, h⟩ | ⟨-, -, h⟩
    · rw [h]
      rfl
    · rw [h, requestBuffer_done, hs] at ht
      cases ht
    · rw [h, synthCommit_done, hs] at ht
      cases ht

/-- The block's own action raises DONE only in a completion, from a busy state. -/
theorem settle_done_rises {b : Bool} {s t : State} (h : settle b s = .next t) (hs : s.done = false)
    (ht : t.done = true) : t.fsm = .idle ∧ busy s = true := by
  rcases settle_eq_next h with rfl | ⟨i, -, hrun, -, rfl⟩
  · rw [hs] at ht
    cases ht
  · exact ⟨commandResult_done_rises hs ht, by unfold busy; rw [hrun]⟩

/-- An event that raises DONE completes a command; one after which the block is busy or DONE is 1 finds it busy or is
a write to CMD. -/
theorem takeEvent_done_rises {e : Event} {s t : State} (he : takeEvent e s = .next t) (hs : s.done = false) :
    (t.done = true → t.fsm = .idle) ∧
      (busy t = true ∨ t.done = true → busy s = true ∨ ∃ w, e = .hostWrite 0x00C 32 w) := by
  have hkept {u : State} {P : Prop} (hdone : u.done = false) (hfsm : u.fsm = s.fsm) :
      (u.done = true → u.fsm = .idle) ∧ (busy u = true ∨ u.done = true → busy s = true ∨ P) :=
    ⟨fun h => by simp [hdone] at h, fun h => .inl (by simpa [hdone, busy_congr hfsm] using h)⟩
  have hbusy {f : Fsm} (hf : s.fsm = f) (hne : f ≠ .idle) : busy s = true := by
    rw [busy_eq_true_iff, hf]
    exact hne
  rcases takeEvent_eq_next he with ⟨_, _, _, _, -, rfl⟩ | ⟨_, _, v, u, r, rfl, rfl, hu⟩ | ⟨rfl, -⟩ |
    ⟨_, _, hwait, -, rfl⟩ | ⟨_, _, _, hwait, -, -, -, rfl⟩ | ⟨-, hwait, rfl⟩ | ⟨_, -, -, rfl⟩ | ⟨a, rfl, rfl⟩
  · exact hkept hs rfl
  · rcases hu with rfl | ⟨-, -, rfl⟩ | ⟨-, -, rfl⟩ | ⟨-, rfl⟩ | ⟨hoff, rfl, -, rfl⟩ | ⟨-, _, rfl⟩
    · exact hkept hs rfl
    · exact hkept hs rfl
    · exact hkept (by simp [hs]) rfl
    · exact hkept hs rfl
    · obtain rfl := regOffset_of_regAt hoff
      refine ⟨fun hdone => ?_, fun _ => .inr ⟨v, rfl⟩⟩
      rcases offer_cases v s with ⟨i, -, h⟩ | ⟨_, -, h⟩
      · simp [h] at hdone
      · simp [h]
    · exact hkept hs rfl
  · exact hkept hs rfl
  · exact ⟨fun _ => rfl, fun _ => .inl (hbusy hwait (by simp))⟩
  · exact ⟨fun hdone => by simp [synthGranted_eq, hs] at hdone, fun _ => .inl (hbusy hwait (by simp))⟩
  · exact ⟨fun _ => rfl, fun _ => .inl (hbusy hwait (by simp))⟩
  · exact hkept hs rfl
  · exact ⟨fun _ => rfl, fun h => by simp [busy] at h⟩

/-- Settles O57: DONE rises in the arrival or in the block's own action after it, each time in a completion. -/
theorem doneRisesOnlyAtCompletion : Obligations.DoneRisesOnlyAtCompletion := by
  intro s t h hs ht
  obtain ⟨-, ⟨-, hp⟩ | ⟨⟨e, b⟩, rest, u, hin, hu, hp⟩⟩ := step_eq_next h
  · obtain ⟨hidle, hbusy⟩ := settle_done_rises ((settle_true _).trans hp) hs ht
    exact ⟨hidle, .inl hbusy⟩
  · obtain ⟨hcomplete, hcause⟩ := takeEvent_done_rises hu hs
    obtain ⟨hidle, hafter⟩ : t.fsm = .idle ∧ (busy u = true ∨ u.done = true) := by
      cases hdone : u.done with
      | false =>
        obtain ⟨hidle, hbusy⟩ := settle_done_rises hp hdone ht
        exact ⟨hidle, .inl hbusy⟩
      | true =>
        have hidle := hcomplete hdone
        rcases settle_eq_next hp with rfl | ⟨i, -, hrun, -⟩
        · exact ⟨hidle, .inr rfl⟩
        · rw [hidle] at hrun
          cases hrun
    rcases hcause hafter with hbusy | ⟨w, rfl⟩
    · exact ⟨hidle, .inl hbusy⟩
    · exact ⟨hidle, .inr ⟨w, b, rest, hin⟩⟩

/-! ## A busy block keeps its state until its turn (10_state.md R29, R47) -/

/-- CTRL, DONE, OVR, the reply and the count of free draws show in no register but STATUS and CTRL. -/
theorem regValue_congr_flags {r : Reg} (hstatus : r ≠ .status) (hctrl : r ≠ .ctrl) (s : State) (ie done ovr : Bool)
    (a : Reply) (n : Nat) :
    regValue r { s with ctrlIE := ie, done := done, ovr := ovr, reply := a, draws := n } = regValue r s := by
  cases r with
  | status => exact absurd rfl hstatus
  | ctrl => exact absurd rfl hctrl
  | _ => rfl

/-- While the block is busy, an event that is no reset and no answer it waits for changes CTRL, DONE, OVR, the reply
and the count of free draws at most. -/
theorem takeEvent_busy_frame {e : Event} {s t : State} (hbusy : busy s = true) (hreset : ∀ a, e ≠ .reset a)
    (hanswer : (∃ size k, s.fsm = .allocWait size k) → ∀ ans, e ≠ .allocAnswer s.epoch ans)
    (hgen : s.fsm = .genWait → e ≠ .genDone s.epoch) (he : takeEvent e s = .next t) :
    ∃ ie done ovr a n, t = { s with ctrlIE := ie, done := done, ovr := ovr, reply := a, draws := n } := by
  rcases takeEvent_eq_next he with ⟨_, _, n, a, -, rfl⟩ | ⟨_, _, v, u, a, -, rfl, hu⟩ | ⟨rfl, -⟩ |
    ⟨size, k, hwait, rfl, -⟩ | ⟨size, k, _, hwait, rfl, -⟩ | ⟨rfl, hwait, -⟩ | ⟨_, -, -, rfl⟩ | ⟨b, rfl, -⟩
  · exact ⟨s.ctrlIE, s.done, s.ovr, a, n, rfl⟩
  · rcases hu with rfl | ⟨-, -, rfl⟩ | ⟨-, -, rfl⟩ | ⟨-, rfl⟩ | ⟨-, -, hidle, -⟩ | ⟨hidle, -⟩
    · exact ⟨_, _, _, a, _, rfl⟩
    · exact ⟨v.getLsbD 0, s.done, s.ovr, a, s.draws, rfl⟩
    · exact ⟨s.ctrlIE, s.done && !v.getLsbD 1, s.ovr && !v.getLsbD 2, a, s.draws, rfl⟩
    · exact ⟨s.ctrlIE, s.done, true, a, s.draws, rfl⟩
    · rw [hbusy] at hidle; cases hidle
    · rw [hbusy] at hidle; cases hidle
  · exact ⟨_, _, _, _, _, rfl⟩
  · exact absurd rfl (hanswer ⟨size, k, hwait⟩ .fail)
  · exact absurd rfl (hanswer ⟨size, k, hwait⟩ _)
  · exact absurd rfl (hgen hwait)
  · exact ⟨s.ctrlIE, s.done, s.ovr, _, s.draws, rfl⟩
  · exact absurd rfl (hreset b)

/-- The block does not act in a state without a command in RUN, or where the schedule holds it (log 2). -/
theorem settle_of_no_turn {b : Bool} {s t : State} (h : settle b s = .next t)
    (hturn : (∀ i, s.fsm ≠ .run i) ∨ b = false) : t = s := by
  rcases settle_eq_next h with rfl | ⟨i, rfl, hrun, -⟩
  · rfl
  · rcases hturn with hno | hheld
    · exact absurd hrun (hno i)
    · cases hheld

/-- Settles O59: the arrival is none that the busy state answers to, and the block does not act after it. -/
theorem busyBlockKeepsItsStateUntilItsTurn : Obligations.BusyBlockKeepsItsStateUntilItsTurn := by
  intro s t e b rest hin hreset hquiet h
  obtain ⟨-, ⟨hnil, -⟩ | ⟨a, rest', u, hin', hu, hp⟩⟩ := step_eq_next h
  · rw [hin] at hnil
    cases hnil
  obtain ⟨rfl, rfl⟩ := List.cons.inj (hin.symm.trans hin')
  obtain ⟨hbusy, hturn, hanswer, hgen⟩ : busy s = true ∧ ((∀ i, s.fsm ≠ .run i) ∨ b = false) ∧
      ((∃ size k, s.fsm = .allocWait size k) → ∀ ans, e ≠ .allocAnswer s.epoch ans) ∧
      (s.fsm = .genWait → e ≠ .genDone s.epoch) := by
    rw [busy_eq_true_iff]
    rcases hquiet with ⟨⟨size, k, hwait⟩, hans⟩ | ⟨hwait, hdone⟩ | ⟨⟨i, hrun⟩, hheld⟩
    · simp [hwait, hans]
    · simp [hwait, hdone]
    · simp [hrun, hheld]
  obtain ⟨ie, done, ovr, r, n, rfl⟩ :=
    takeEvent_busy_frame (s := setReply .none { s with inbox := rest }) hbusy hreset hanswer hgen hu
  obtain rfl := settle_of_no_turn hp hturn
  exact ⟨rfl, fun q hstatus hctrl => regValue_congr_flags (s := { s with inbox := rest }) hstatus hctrl ie done ovr r n,
    rfl, rfl, rfl, rfl, rfl, rfl⟩

end Sys2Proof.Machine

namespace Sys2Proof.Machine

/-! ## Host accesses: the window, bus errors, RegRead and RegWrite (20_memory.md R50 to R58) -/

/-- An access is served exactly when it is 32 bits wide and aligned (20_memory.md R53). -/
theorem accessWellFormed_eq_false_iff {off width : Nat} :
    accessWellFormed off width = false ↔ width ≠ 32 ∨ off % 4 ≠ 0 := by
  rw [accessWellFormed, Bool.and_eq_false_iff, decide_eq_false_iff_not, decide_eq_false_iff_not]

/-- The window has no offset from 2048 on, for a read or a write of any width (log 12). -/
theorem hostAccess_outside {off : Nat} (hoff : 2048 ≤ off) (width : Nat) (v : Word) (s : State) :
    hostRead off width s = .fault .outsideWindow ∧ hostWrite off width v s = .fault .outsideWindow :=
  ⟨if_pos hoff, if_pos hoff⟩

/-- An access that the bus refuses is answered before the block sees it (20_memory.md R53). -/
theorem hostAccess_illFormed {off width : Nat} (hoff : off < 2048) (hbad : accessWellFormed off width = false)
    (v : Word) (s : State) :
    hostRead off width s = .next (setReply .busError s) ∧ hostWrite off width v s = .next (setReply .busError s) := by
  have hin : ¬ 2048 ≤ off := Nat.not_le.mpr hoff
  unfold hostRead hostWrite
  rw [if_neg hin, if_neg hin, hbad]
  exact ⟨rfl, rfl⟩

/-- An aligned 32-bit access to the window reaches RegRead and RegWrite (20_memory.md R52). -/
theorem hostAccess_aligned {off : Nat} (hoff : off < 2048) (halign : off % 4 = 0) (v : Word) (s : State) :
    hostRead off 32 s = .next (setReply (.data (regRead off s)) (afterRead off s)) ∧
      hostWrite off 32 v s = .next (setReply .written (regWrite off v s)) := by
  have hin : ¬ 2048 ≤ off := Nat.not_le.mpr hoff
  have hserved : accessWellFormed off 32 = true := by simp [accessWellFormed, halign]
  unfold hostRead hostWrite
  rw [if_neg hin, if_neg hin, hserved]
  exact ⟨rfl, rfl⟩

/-- Settles O11: the bound is the first thing a read and a write check. -/
theorem accessOutsideTheWindowFaults : Obligations.AccessOutsideTheWindowFaults :=
  fun s _ width v hoff => hostAccess_outside hoff width v s

/-- Settles O10: the width and the alignment are checked before RegRead and RegWrite. -/
theorem unalignedAccessIsABusError : Obligations.UnalignedAccessIsABusError :=
  fun s _ _ v hoff hbad => hostAccess_illFormed hoff (accessWellFormed_eq_false_iff.mpr hbad) v s

/-- An offset that is no register's is unmapped (20_memory.md R51). -/
theorem regAt_eq_none {off : Nat} (h : ∀ r, regOffset r ≠ off) : regAt off = none :=
  Option.eq_none_iff_forall_ne_some.mpr fun r hr => h r (regOffset_of_regAt hr)

/-- An aligned access to an unmapped offset reads 0 and ignores what is written (20_memory.md R55, R57). -/
theorem hostAccess_unmapped {off : Nat} (hoff : off < 2048) (halign : off % 4 = 0) (hnone : regAt off = none)
    (v : Word) (s : State) :
    hostRead off 32 s = .next (setReply (.data 0) s) ∧ hostWrite off 32 v s = .next (setReply .written s) := by
  obtain ⟨hread, hwrite⟩ := hostAccess_aligned hoff halign v s
  rw [hread, hwrite]
  unfold regRead afterRead regWrite
  rw [hnone]
  exact ⟨rfl, rfl⟩

/-- A read is a free draw exactly at an offset from 0x040 on while BUSY = 1 (20_memory.md R56, R58). -/
theorem readIsFree_iff (r : Reg) (s : State) : readIsFree r s = true ↔ 0x040 ≤ regOffset r ∧ busy s = true := by
  rw [readIsFree, isOutput, Bool.and_eq_true, decide_eq_true_iff]

/-- A 32-bit read that is a free draw answers a value that no rule fixes and counts it (20_memory.md R58). -/
theorem hostRead_free {r : Reg} {s : State} (hfree : readIsFree r s = true) :
    hostRead (regOffset r) 32 s =
      .next (setReply (.data (Config.freeRead s.draws)) { s with draws := s.draws + 1 }) := by
  obtain ⟨hoff, halign⟩ := regOffset_range r
  rw [(hostAccess_aligned hoff halign 0 s).1]
  unfold regRead afterRead
  rw [regAt_regOffset]
  simp only [hfree]
  rfl

/-- Settles O7: an offset is unmapped, or it is a register's, whose read is a free draw or answers its value. -/
theorem regReadFollowsTheRule : Obligations.RegReadFollowsTheRule := by
  intro s off hoff halign
  refine ⟨fun hnone => ?unmapped, ?free, ?value, rfl⟩
  case unmapped => exact (hostAccess_unmapped hoff halign (regAt_eq_none hnone) 0 s).1
  case free =>
    rintro r rfl hbusy
    exact hostRead_free ((readIsFree_iff r s).mpr hbusy)
  case value =>
    rintro r rfl hquiet
    exact hostRead_regOffset (Bool.eq_false_iff.mpr fun hfree => hquiet ((readIsFree_iff r s).mp hfree))

/-- A 32-bit write to a register other than CTRL, STATUS and CMD is lost, stored or ignored (20_memory.md R57). -/
theorem hostWrite_plain {r : Reg} (hctrl : r ≠ .ctrl) (hstatus : r ≠ .status) (hcmd : r ≠ .cmd) (v : Word)
    (s : State) :
    hostWrite (regOffset r) 32 v s =
      .next (setReply .written (if isInput r then writeInput r v s else s)) := by
  rw [hostWrite_regOffset, regWrite_plain v s (regAt_regOffset r) hctrl hstatus hcmd]

/-- A 32-bit write to a read-only register is ignored (20_memory.md R57). -/
theorem hostWrite_readOnly {r : Reg} (hr : readOnly r = true) (v : Word) (s : State) :
    hostWrite (regOffset r) 32 v s = .next (setReply .written s) := by
  obtain ⟨hinput, hctrl, hstatus, hcmd⟩ : isInput r = false ∧ r ≠ .ctrl ∧ r ≠ .status ∧ r ≠ .cmd := by
    simpa [readOnly] using hr
  rw [hostWrite_plain hctrl hstatus hcmd, hinput]
  rfl

/-- A 32-bit write to an input register while BUSY = 1 is lost, and OVR is set (10_state.md R29). -/
theorem hostWrite_input_busy {r : Reg} (hr : isInput r = true) {s : State} (hbusy : busy s = true) (v : Word) :
    hostWrite (regOffset r) 32 v s = .next (setReply .written (setOverrun s)) := by
  have hne (q : Reg) (hq : isInput q = false) : r ≠ q := fun e => by rw [e, hq] at hr; cases hr
  rw [hostWrite_plain (hne _ rfl) (hne _ rfl) (hne _ rfl), if_pos hr, writeInput, if_pos hbusy]

/-- A 32-bit write to CMD is lost while BUSY = 1, else an offer (10_state.md R28). -/
theorem hostWrite_cmd (v : Word) (s : State) :
    hostWrite 0x00C 32 v s = .next (setReply .written (if busy s then setOverrun s else offer v s)) :=
  hostWrite_regOffset .cmd v s

/-- Settles O12: one equation for each kind of register, and one for the unmapped offsets. -/
theorem regWriteFollowsTheRule : Obligations.RegWriteFollowsTheRule := by
  intro s off v hoff halign
  refine ⟨fun hnone => ?unmapped, ?readOnly, ?ctrl, ?status, fun hbusy => ?cmdBusy, fun hidle => ?cmdIdle,
    ?inputBusy, ?inputIdle⟩
  case unmapped => exact (hostAccess_unmapped hoff halign (regAt_eq_none hnone) v s).2
  case readOnly =>
    rintro r rfl hr
    exact hostWrite_readOnly hr v s
  case ctrl => exact hostWrite_regOffset .ctrl v s
  case status => exact hostWrite_regOffset .status v s
  case cmdBusy =>
    rw [hostWrite_cmd, if_pos hbusy]
    rfl
  case cmdIdle =>
    rw [hostWrite_cmd, hidle]
    rfl
  case inputBusy =>
    rintro r rfl hr hbusy
    exact hostWrite_input_busy hr hbusy v
  case inputIdle =>
    rintro r rfl hr hidle
    exact ⟨hostWrite_input hr hidle v, regValue_storeInput_same hr v s⟩

/-! ## The generation agent at work (20_memory.md R62, 60_exceptions.md R130) -/

/-- While the state is GEN_WAIT the port answers a served register with its value (60_exceptions.md R130). -/
theorem takeEvent_genRead {r : Reg} {s : State} (hwait : s.fsm = .genWait) (hr : genServes r = true) :
    takeEvent (.genRead r) s = .next (setReply (.genData (regValue r s)) s) := by
  show onGenRead r s = _
  unfold onGenRead
  rw [hwait]
  exact if_pos hr

/-- Settles O43: each of the sixteen registers, and every entry of ENV_LUT, is one that the port serves. -/
theorem generationPortReadsTheParameterBlock : Obligations.GenerationPortReadsTheParameterBlock := by
  intro s r hwait hr
  refine takeEvent_genRead hwait ?_
  rcases hr with hmem | ⟨i, rfl⟩
  · have hall : ∀ q ∈ [Reg.sampleCount, .osc1Pinv, .osc2Pinv, .envStep, .b0, .b1, .b2, .a0, .a1, .a2, .coefFrac,
        .pbWaves, .amp1, .amp2, .osc1Period, .osc2Period], genServes q = true := by decide
    exact hall r hmem
  · rfl

/-- In GEN_WAIT an event that is no reset changes the flags, ERR, the command state machine, the reply and the count
of free draws at most, and puts no command in RUN: GenDone completes, and no other event is the awaited answer
(20_memory.md R62, 43_orchestrator.md R115). -/
theorem takeEvent_genWait_frame {e : Event} {s t : State} (hwait : s.fsm = .genWait) (hreset : ∀ b, e ≠ .reset b)
    (he : takeEvent e s = .next t) :
    ∃ ie done ovr err f a n, (∀ i, f ≠ .run i) ∧
      t = { s with ctrlIE := ie, done := done, ovr := ovr, err := err, fsm := f, reply := a, draws := n } := by
  have hnorun : ∀ i, s.fsm ≠ .run i := by simp [hwait]
  by_cases hdone : e = .genDone s.epoch
  · subst hdone
    rcases onGenDone_eq_next he with ⟨-, rfl⟩ | ⟨-, -, rfl⟩
    · exact ⟨_, _, _, _, _, _, _, hnorun, rfl⟩
    · exact ⟨s.ctrlIE, true, s.ovr, .none, .idle, s.reply, s.draws, by simp, rfl⟩
  · have hbusy : busy s = true := (busy_eq_true_iff s).mpr (by simp [hwait])
    obtain ⟨ie, done, ovr, a, n, rfl⟩ :=
      takeEvent_busy_frame hbusy hreset (by simp [hwait]) (fun _ => hdone) he
    exact ⟨ie, done, ovr, s.err, s.fsm, a, n, hnorun, rfl⟩

/-- Settles O45: the arrival leaves the block's results and inputs alone, and no command is in RUN after it. -/
theorem generationFreezesTheParameterBlock : Obligations.GenerationFreezesTheParameterBlock := by
  intro s t hwait h hreset
  obtain ⟨-, ⟨-, hp⟩ | ⟨arrival, rest, u, hin, hu, hp⟩⟩ := step_eq_next h
  · obtain rfl := settle_of_no_turn (s := setReply .none s) ((settle_true _).trans hp) (.inl (by simp [hwait]))
    exact ⟨rfl, rfl, rfl, rfl, rfl, rfl⟩
  · have hevent : ∀ b, arrival.event ≠ .reset b := by simpa [hin] using hreset
    obtain ⟨ie, done, ovr, err, f, a, n, hnorun, rfl⟩ :=
      takeEvent_genWait_frame (s := setReply .none { s with inbox := rest }) hwait hevent hu
    obtain rfl := settle_of_no_turn hp (.inl hnorun)
    exact ⟨rfl, rfl, rfl, rfl, rfl, rfl⟩

end Sys2Proof.Machine

namespace Sys2Proof.Machine

/-! ## The decoder and the encoder (30_encoding.md R65 to R67, R70) -/

/-- An opcode of the map names the one command it is the opcode of (30_encoding.md R67). -/
theorem instrOfOp_eq_some_iff {n : Nat} {i : Instr} : instrOfOp n = some i ↔ n = opOf i := by
  constructor
  · intro h
    match n with
    | 0 | 1 | 2 | 3 | 4 | 5 | 6 =>
      cases h
      rfl
    | _ + 7 => cases h
  · rintro rfl
    cases i <;> rfl

/-- The opcodes from 0x7 on name no command (30_encoding.md R70). -/
theorem instrOfOp_eq_none {n : Nat} (h : 7 ≤ n) : instrOfOp n = none := by
  obtain ⟨m, rfl⟩ := Nat.exists_eq_add_of_le' h
  rfl

/-- The fields of a command's word (30_encoding.md R65, R67). -/
theorem encode_fields (i : Instr) : Laws.EncodedWord.Statement i := by
  cases i with
  | nop => exact Laws.EncodedWord.nop
  | resolveNote => exact Laws.EncodedWord.resolveNote
  | designFilter => exact Laws.EncodedWord.designFilter
  | buildEnv => exact Laws.EncodedWord.buildEnv
  | derive => exact Laws.EncodedWord.derive
  | synthesize => exact Laws.EncodedWord.synthesize
  | release => exact Laws.EncodedWord.release

/-- The two fields make up the whole word (30_encoding.md R65). -/
theorem word_eq_of_fields {v w : Word} (hrsvd : rsvdField v = rsvdField w) (hop : opField v = opField w) : v = w := by
  unfold rsvdField at hrsvd
  unfold opField at hop
  exact BitVec.eq_of_toNat_eq (by omega)

/-- A word decodes to a command exactly when RSVD is 0 and OP names the command (30_encoding.md R65, R66). -/
theorem decode_eq_ok_iff_fields {w : Word} {i : Instr} :
    decode w = .ok i ↔ rsvdField w = 0 ∧ opField w = opOf i := by
  rw [← instrOfOp_eq_some_iff]
  unfold decode
  by_cases hrsvd : rsvdField w = 0
  · cases instrOfOp (opField w) <;> simp [hrsvd]
  · simp [hrsvd]

/-- Decoding undoes encoding, and no other word decodes to the command: a command's word has the two fields that the
decoder asks for, and a word has no third field. -/
theorem decode_eq_ok_iff (w : Word) (i : Instr) : decode w = .ok i ↔ w = encode i := by
  obtain ⟨-, hrsvd, hop, -⟩ := encode_fields i
  rw [decode_eq_ok_iff_fields]
  constructor
  · rintro ⟨hrsvd', hop'⟩
    exact word_eq_of_fields (hrsvd'.trans hrsvd.symm) (hop'.trans hop.symm)
  · rintro rfl
    exact ⟨hrsvd, hop⟩

/-- Decoding undoes encoding (30_encoding.md R67). -/
@[simp] theorem decode_encode (i : Instr) : decode (encode i) = .ok i := (decode_eq_ok_iff _ i).mpr rfl

/-- RSVD is bits 31:4 (30_encoding.md R65). -/
theorem rsvdField_eq (w : Word) : rsvdField w = (w.extractLsb' 4 28).toNat := by
  rw [BitVec.extractLsb'_toNat, Nat.shiftRight_eq_div_pow, rsvdField]
  omega

/-- OP is bits 3:0 (30_encoding.md R65). -/
theorem opField_eq (w : Word) : opField w = (w.extractLsb' 0 4).toNat := by
  rw [BitVec.extractLsb'_toNat, Nat.shiftRight_zero, opField]

/-- A word with a bit in 31:4 is refused for its reserved bits (30_encoding.md R70). -/
theorem decode_of_reservedBits {w : Word} (h : w.extractLsb' 4 28 ≠ 0) : decode w = .error .reservedBits := by
  have hrsvd : rsvdField w ≠ 0 := by
    rw [rsvdField_eq]
    exact fun h0 => h (BitVec.eq_of_toNat_eq h0)
  exact if_pos hrsvd

/-- A word with no bit in 31:4 and OP in 0x7 to 0xF is refused for its opcode (30_encoding.md R70). -/
theorem decode_of_reservedOpcode {w : Word} (hrsvd : w.extractLsb' 4 28 = 0)
    (hop : 7 ≤ (w.extractLsb' 0 4).toNat) : decode w = .error .reservedOpcode := by
  have hrsvd' : rsvdField w = 0 := by
    rw [rsvdField_eq, hrsvd]
    rfl
  unfold decode
  rw [instrOfOp_eq_none (opField_eq w ▸ hop)]
  exact if_neg (not_not.mpr hrsvd')

/-- An illegal word decodes to no command (30_encoding.md R70). -/
theorem decode_of_illegal {w : Word} (h : w.extractLsb' 4 28 ≠ 0 ∨ 7 ≤ (w.extractLsb' 0 4).toNat) :
    ∃ e, decode w = .error e := by
  by_cases hrsvd : w.extractLsb' 4 28 = 0
  · exact ⟨_, decode_of_reservedOpcode hrsvd (h.resolve_left (not_not.mpr hrsvd))⟩
  · exact ⟨_, decode_of_reservedBits hrsvd⟩

/-- Settles O1: each clause is `decode_eq_ok_iff`, at the command's written-out word or at any command. -/
theorem decodeAgreesWithTheOpcodeMap : Obligations.DecodeAgreesWithTheOpcodeMap :=
  ⟨fun w => ⟨decode_eq_ok_iff w .nop, decode_eq_ok_iff w .resolveNote, decode_eq_ok_iff w .designFilter,
    decode_eq_ok_iff w .buildEnv, decode_eq_ok_iff w .derive, decode_eq_ok_iff w .synthesize,
    decode_eq_ok_iff w .release⟩, decode_eq_ok_iff⟩

/-- Settles O2: three words are encoded commands, and the others have a reserved opcode or a reserved bit. -/
theorem decodeOfWrittenOutWords : Obligations.DecodeOfWrittenOutWords :=
  ⟨decode_encode .nop, decode_encode .synthesize, decode_encode .release,
    decode_of_reservedOpcode (by decide) (by decide), decode_of_reservedOpcode (by decide) (by decide),
    decode_of_reservedBits (by decide), decode_of_reservedBits (by decide)⟩

/-! ## A word offered to CMD (30_encoding.md R66, R70) -/

/-- An illegal word clears DONE and ERR only to complete with ERR_ILLEGAL (60_exceptions.md R123). -/
theorem rejectIllegal_eq_complete (s : State) : rejectIllegal s = complete .illegal s := rfl

/-- Completing an idle block changes DONE and ERR alone (60_exceptions.md R121). -/
theorem complete_of_idle {s : State} (hidle : busy s = false) (e : ErrCode) :
    complete e s = { s with done := true, err := e } := by
  unfold complete
  rw [← (busy_eq_false_iff s).mp hidle]

/-- An illegal word written to CMD while BUSY = 0 completes at once with ERR_ILLEGAL (30_encoding.md R70). -/
theorem hostWrite_illegal {s : State} {w : Word} (hidle : busy s = false) {e : DecodeError}
    (hdec : decode w = .error e) : hostWrite 0x00C 32 w s = .next (setReply .written (complete .illegal s)) := by
  have hoffer : offer w s = rejectIllegal s := by
    unfold offer
    rw [hdec]
  rw [hostWrite_cmd, hidle, ← rejectIllegal_eq_complete, ← hoffer]
  rfl

/-- Settles O3: the word completes an idle block with ERR_ILLEGAL, which shows in STATUS alone. -/
theorem illegalWordCompletesWithErrIllegal : Obligations.IllegalWordCompletesWithErrIllegal := by
  intro s w hidle hillegal
  obtain ⟨e, hdec⟩ := decode_of_illegal hillegal
  refine ⟨_, hostWrite_illegal hidle hdec, ?record, fun r hr => ?registers, ?code, ?notBusy, ?line⟩
  case record =>
    rw [complete_of_idle hidle]
    rfl
  case registers => rw [regValue_setReply, regValue_complete hr]
  case code => exact statusWord_err _
  case notBusy => exact busy_complete .illegal s
  case line => exact Bool.and_true s.ctrlIE

/-- Settles O4: an encoded command decodes to the command, which the block accepts. -/
theorem commandWordIsAccepted : Obligations.CommandWordIsAccepted :=
  fun _ i hidle => takeEvent_commandWrite hidle (decode_encode i)

/-- Settles O17: the fetched word is the command's own, so the step accepts the command and runs it. -/
theorem fetchWordIsRunByTheNextStep : Obligations.FetchWordIsRunByTheNextStep := by
  intro s i hw
  obtain ⟨hinstr, -⟩ := encode_fields i
  have hword : BitVec.ofNat 32 ((encode i).toNat % 2 ^ 32) = encode i := by
    rw [Nat.mod_eq_of_lt (encode i).isLt, BitVec.ofNat_toNat, BitVec.setWidth_eq]
  have hin : (s.withFetchWord 32 (encode i).toNat).inbox =
      { event := .hostWrite 0x00C 32 (encode i), runs := true } :: s.inbox :=
    congrArg (commandArrival · :: s.inbox) hword
  exact stepRunsTheDecodedCommand (s.withFetchWord 32 (encode i).toNat) (encode i) i s.inbox hw rfl hinstr
    (decode_encode i) hin

/-! ## Host operations (30_encoding.md R71, R72) -/

/-- The value of `cmd OPNAME` reaches the bus as the command's word, unreduced (30_encoding.md R72). -/
theorem hostOpEvent_hostCmd (i : Instr) : hostOpEvent (hostCmd i) = .hostWrite 0x00C 32 (encode i) := by
  have hword : BitVec.ofInt 32 ((encode i).toNat : Int) = encode i := by
    rw [BitVec.ofInt_natCast, BitVec.ofNat_toNat, BitVec.setWidth_eq]
  exact congrArg (Event.hostWrite 0x00C 32) hword

/-- Settles O5: `wr` and `rd` are their transactions by definition, `ack` and `wait` are two of them, and `cmd` writes
the command's word unreduced. -/
theorem hostOperationsExpandToBusTransactions : Obligations.HostOperationsExpandToBusTransactions :=
  ⟨fun _ _ => rfl, fun _ => rfl, hostOpEvent_hostCmd, rfl, rfl⟩

end Sys2Proof.Machine

namespace Sys2Proof.Machine

/-! ## RESOLVE_NOTE: the period and the frequency of the clamped note (40_note.md R73 to R77) -/

/-- A clamped semitone is a column of the period ROM (40_note.md R73). -/
theorem clampSemi_lt (semi : Nat) : clampSemi semi < 12 := by
  unfold clampSemi
  omega

/-- A clamped octave is a row of the period ROM (40_note.md R73). -/
theorem clampOct_sub_octBase_lt (c : Config) (oct : Nat) : clampOct c oct - c.octBase < 3 := by
  obtain ⟨-, hhi⟩ := clampNat_range (show c.octBase ≤ c.octBase + 2 by omega) oct
  unfold clampOct
  omega

/-- Each of the three rows of the period ROM has twelve entries, each in 1..65535 (10_state.md R44, R45). -/
theorem periodRow_spec {c : Config} (hc : c.wellFormed = true) {r : Nat} (hr : r < 3) :
    (c.periodRom.getD r []).length = 12 ∧ ∀ v ∈ c.periodRom.getD r [], 1 ≤ v ∧ v ≤ 65535 := by
  obtain ⟨-, -, -, ⟨hlen, hrows⟩, -⟩ := wellFormed_parts hc
  exact hrows _ (getD_mem_of_lt (hlen ▸ hr))

/-- Inside the period ROM a lookup needs no default: it reads an entry of the ROM, in 1..65535 (40_note.md R74). -/
theorem periodEntry_spec {c : Config} (hc : c.wellFormed = true) {r k : Nat} (hr : r < 3) (hk : k < 12) :
    periodEntry c r k = (c.periodRom.getD r []).getD k 0 ∧ 1 ≤ periodEntry c r k ∧ periodEntry c r k ≤ 65535 := by
  obtain ⟨hlen, hentries⟩ := periodRow_spec hc hr
  have hin : k < (c.periodRom.getD r []).length := hlen ▸ hk
  refine ⟨?_, hentries _ (getD_mem_of_lt hin)⟩
  rw [periodEntry, List.getD_eq_getElem _ _ hin, List.getD_eq_getElem _ _ hin]

/-- The period of a note is the ROM's entry for the clamped note, in 1..65535 (40_note.md R73, R74). -/
theorem notePeriod_spec {c : Config} (hc : c.wellFormed = true) (x : Inputs) :
    notePeriod c x = (c.periodRom.getD (clampOct c (octOf x) - c.octBase) []).getD (clampSemi (semiOf x)) 0 ∧
      1 ≤ notePeriod c x ∧ notePeriod c x ≤ 65535 :=
  periodEntry_spec hc (clampOct_sub_octBase_lt c _) (clampSemi_lt _)

/-- The period of a note fits PERIOD (40_note.md R74). -/
theorem resolveNote_period_toNat {c : Config} (hc : c.wellFormed = true) (x : Inputs) :
    (resolveNote c x).period.toNat = notePeriod c x := by
  obtain ⟨-, -, hhi⟩ := notePeriod_spec hc x
  exact (BitVec.toNat_ofNat _ _).trans (Nat.mod_eq_of_lt (by omega))

/-- The frequency of a note is at most CLOCK_HZ, so it fits FREQ (40_note.md R75). -/
theorem resolveNote_freq_toNat {c : Config} (hc : c.wellFormed = true) (x : Inputs) :
    (resolveNote c x).freq.toNat = roundDiv x.clockHz.toNat (notePeriod c x) := by
  obtain ⟨-, hpos, -⟩ := notePeriod_spec hc x
  exact (BitVec.toNat_ofNat _ _).trans (Nat.mod_eq_of_lt ((roundDiv_le _ hpos).trans_lt x.clockHz.isLt))

/-- RESOLVE_NOTE commits the note's period and frequency and completes (40_note.md R76). -/
theorem exec_resolveNote {s : State} (hw : s.cfg.wellFormed = true) :
    exec .resolveNote s =
      .next { s with noteOut := resolveNote s.cfg s.inputs, done := true, err := .none, fsm := .idle } := by
  rw [exec_eq, guarded_of_wf hw]
  rfl

/-- A rounded quotient, multiplied back, is within half the divisor of the dividend (00_scope.md R13). -/
theorem roundDiv_mul_sub_natAbs (n : Nat) {d : Nat} (hd : 0 < d) :
    2 * ((roundDiv n d : Int) * d - n).natAbs ≤ d := by
  obtain ⟨hle, hlt⟩ := roundDiv_spec n hd
  have hcomm : 2 * d * roundDiv n d = 2 * (roundDiv n d * d) := by ring
  rw [← Int.natCast_mul]
  omega

/-- Settles O22: the clamped note lies inside the ROM, and the entry and the quotient by it fit their registers. -/
theorem resolveNoteWritesPeriodAndFreq : Obligations.ResolveNoteWritesPeriodAndFreq := by
  intro s hw
  have hperiod := resolveNote_period_toNat hw s.inputs
  obtain ⟨hentry, hpos, -⟩ := notePeriod_spec hw s.inputs
  refine ⟨_, exec_resolveNote hw, rfl, ?entry, ?positive, ?quotient⟩
  case entry => exact hperiod.trans hentry
  case positive => exact hperiod.symm ▸ hpos
  case quotient =>
    rw [hperiod]
    exact resolveNote_freq_toNat hw s.inputs

/-- Settles O23: FREQ is the quotient of CLOCK_HZ rounded to the nearest, by a period that is at least 1. -/
theorem noteRoundTripIsWithinHalf : Obligations.NoteRoundTripIsWithinHalf := by
  intro s hw
  obtain ⟨-, hpos, -⟩ := notePeriod_spec hw s.inputs
  refine ⟨_, exec_resolveNote hw, ?_⟩
  rw [resolveNote_period_toNat hw, resolveNote_freq_toNat hw]
  exact roundDiv_mul_sub_natAbs s.inputs.clockHz.toNat hpos

end Sys2Proof.Machine

namespace Sys2Proof.Machine

/-! ## DESIGN_FILTER: the tangent index, the poles and the coefficients (41_filter.md R78 to R95) -/

/-! ### The arguments: the sample rate and the clamped cutoff (41_filter.md R82, R83, R93) -/

/-- Settles O27: the command ends by `raiseError`, which is a completion. -/
theorem designFilterRejectsZeroSampleRate : Obligations.DesignFilterRejectsZeroSampleRate := by
  intro s hw hsr
  have hresult : commandResult .designFilter s = raiseError .arg s := if_pos hsr
  refine ⟨raiseError .arg s, ?_, rfl, fun r hr => regValue_complete hr _ s⟩
  rw [exec_eq, guarded_of_wf hw, hresult]

/-- With SAMPLE_RATE > 0, DESIGN_FILTER answers its committed design (41_filter.md R93). -/
theorem exec_designFilter {s : State} (hw : s.cfg.wellFormed = true) (hsr : s.inputs.sampleRate ≠ 0) :
    exec .designFilter s = .next (complete .none (commitFilter (filterRegsOf s.cfg s.inputs) s)) := by
  rw [exec_eq, guarded_of_wf hw, commandResult_designFilter hsr]

/-- An out-of-range cutoff becomes fdiv(sr, 4) (41_filter.md R83). -/
theorem clampCutoff_of_out {sr cutoff : Nat} (h : cutoff = 0 ∨ sr / 4 < cutoff) : clampCutoff sr cutoff = sr / 4 :=
  if_pos h

/-- The cutoff fdiv(sr, 4) is its own clamp, also where it is 0 (41_filter.md R83). -/
@[simp] theorem clampCutoff_fmax (sr : Nat) : clampCutoff sr (sr / 4) = sr / 4 := ite_self _

/-- A clamped cutoff is at most a quarter of the sample rate (41_filter.md R83). -/
theorem four_mul_clampCutoff_le (sr cutoff : Nat) : 4 * clampCutoff sr cutoff ≤ sr := by
  unfold clampCutoff fdiv
  split <;> omega

/-- A design depends on the cutoff through its clamp alone (41_filter.md R83, R93). -/
theorem filterDesign_congr_clampCutoff (c : Config) {sr cutoff cutoff' : Nat}
    (h : clampCutoff sr cutoff = clampCutoff sr cutoff') : filterDesign c sr cutoff = filterDesign c sr cutoff' := by
  unfold filterDesign
  rw [h]

/-- Settles O28: both cutoffs have the clamp floor(SAMPLE_RATE / 4), which fits CUTOFF. -/
theorem cutoffOutOfRangeDesignsAtFmax : Obligations.CutoffOutOfRangeDesignsAtFmax := by
  intro s hw hsr hout
  refine ⟨_, _, exec_designFilter hw hsr, exec_designFilter hw hsr, ?_⟩
  have hfits : (BitVec.ofNat 32 (s.inputs.sampleRate.toNat / 4)).toNat = s.inputs.sampleRate.toNat / 4 :=
    (BitVec.toNat_ofNat _ _).trans (Nat.mod_eq_of_lt ((Nat.div_le_self _ 4).trans_lt s.inputs.sampleRate.isLt))
  have hout' : s.inputs.cutoff.toNat = 0 ∨ s.inputs.sampleRate.toNat / 4 < s.inputs.cutoff.toNat :=
    hout.imp_left (congrArg BitVec.toNat)
  refine congrArg designRegs (filterDesign_congr_clampCutoff s.cfg ?_)
  simp only [sampleRateOf, cutoffOf, hfits, clampCutoff_of_out hout', clampCutoff_fmax]

/-! ### The tangent index (41_filter.md R84) -/

/-- A cutoff of at most a quarter of the sample rate scales to at most TAN_SIZE (41_filter.md R84). -/
theorem scaledCutoff_le {size sr fc : Nat} (hfc : 4 * fc ≤ sr) : 4 * size * fc / sr ≤ size :=
  Nat.div_le_of_le_mul <| calc
    4 * size * fc = 4 * fc * size := Nat.mul_right_comm 4 size fc
    _ ≤ sr * size := Nat.mul_le_mul_right size hfc

/-- Only a cutoff of a whole quarter of the sample rate scales to TAN_SIZE (41_filter.md R84). -/
theorem le_four_mul_of_scaledCutoff_eq {size sr fc : Nat} (hsize : 0 < size) (h : 4 * size * fc / sr = size) :
    sr ≤ 4 * fc := by
  refine Nat.le_of_mul_le_mul_left ?_ hsize
  calc
    size * sr = 4 * size * fc / sr * sr := by rw [h]
    _ ≤ 4 * size * fc := Nat.div_mul_le_self _ _
    _ = size * (4 * fc) := by ring

/-- The tangent index is inside a ROM that has an entry (41_filter.md R84). -/
theorem tangentIndex_lt {c : Config} (hsize : 1 ≤ c.tanSize) (sr fc : Nat) : tangentIndex c sr fc < c.tanSize := by
  unfold tangentIndex
  omega

/-- Settles O29: the scaled cutoff is at most TAN_SIZE, so the min differs from it only where it is TAN_SIZE. -/
theorem tangentIndexStaysInTheRom : Obligations.TangentIndexStaysInTheRom := by
  intro c sr cutoff hc _
  obtain ⟨-, -, ⟨hsize, -⟩, -⟩ := wellFormed_parts hc
  have hfc := four_mul_clampCutoff_le sr cutoff
  have hle : 4 * c.tanSize * clampCutoff sr cutoff / sr ≤ c.tanSize := scaledCutoff_le hfc
  refine ⟨fun _ => rfl, hle, tangentIndex_lt hsize _ _, fun hne => ?_, tanEntry_le hc _⟩
  have hquotient : 4 * c.tanSize * clampCutoff sr cutoff / sr = c.tanSize := by
    simp only [tangentIndex, fdiv] at hne
    omega
  exact le_antisymm hfc (le_four_mul_of_scaledCutoff_eq hsize hquotient)

/-! ### The poles (41_filter.md R85, R86) -/

/-- The retained poles are the four candidates' with a negative cosine entry (41_filter.md R85). -/
theorem mem_retainedPoles {c : Config} {n : Nat} :
    n ∈ retainedPoles c ↔ n < 4 ∧ cosEntry c (poleAngle c n) < 0 := by
  have hrange : n ∈ [0, 1, 2, 3] ↔ n < 4 := List.mem_range (n := 4)
  rw [retainedPoles, List.mem_filter, hrange, decide_eq_true_eq]

/-- The retained poles stand in rising order (41_filter.md R85). -/
theorem retainedPoles_pairwise (c : Config) : (retainedPoles c).Pairwise (· < ·) :=
  List.Pairwise.filter _ (by decide)

/-- A well-formed configuration retains two candidates, in rising order (10_state.md R45, 41_filter.md R85). -/
theorem exists_retainedPoles_eq {c : Config} (hc : c.wellFormed = true) :
    ∃ j k, retainedPoles c = [j, k] ∧ j < k ∧ k < 4 ∧
      ∀ n < 4, cosEntry c (poleAngle c n) < 0 ↔ n = j ∨ n = k := by
  obtain ⟨-, hlength, -⟩ := wellFormed_parts hc
  obtain ⟨j, k, hjk⟩ := List.length_eq_two.mp hlength
  have hlt : j < k := by simpa [hjk] using retainedPoles_pairwise c
  have hk : k ∈ retainedPoles c := by simp [hjk]
  refine ⟨j, k, hjk, hlt, (mem_retainedPoles.mp hk).1, fun n hn => ?_⟩
  calc
    cosEntry c (poleAngle c n) < 0 ↔ n ∈ retainedPoles c := by simp [mem_retainedPoles, hn]
    _ ↔ n = j ∨ n = k := by simp [hjk]

/-- A design whose retained poles are known is that of their bilinear images (41_filter.md R85, R86). -/
theorem designAt_of_retainedPoles {c : Config} {j k : Nat} (h : retainedPoles c = [j, k]) (t : Nat) :
    designAt c t = designFromPoles c t (tanEntry c t) (bilinear (scaledPole c (tanEntry c t) j))
      (bilinear (scaledPole c (tanEntry c t) k)) := by
  simp only [designAt, splanePoles, h, List.map_cons, List.map_nil, List.getD_cons_zero, List.getD_cons_succ]

/-- Settles O25: check 2 of R45 names the two retained candidates, and the design maps each by the bilinear
transform. -/
theorem designPolesAreTheBilinearImages : Obligations.DesignPolesAreTheBilinearImages := by
  intro c t hc
  obtain ⟨j, k, hpoles, hjk, hk, hcos⟩ := exists_retainedPoles_eq hc
  refine ⟨j, k, hjk, hk, hcos, ?_⟩
  rw [designAt_of_retainedPoles hpoles]
  exact ⟨rfl, rfl, rfl, rfl, rfl, rfl⟩

/-! ### The coefficients (41_filter.md R78 to R81, R87 to R91) -/

/-- A saturated value is not changed by saturating again (00_scope.md R14). -/
@[simp] theorem sat16_sat16 (v : Int) : sat16 (sat16 v) = sat16 v := sat16_of_range (sat16_range v)

@[simp] theorem sat16_zero : sat16 0 = 0 := sat16_of_range (by omega)

@[simp] theorem asr_zero (n : Nat) : asr 0 n = 0 := Int.zero_ediv _

/-- The expansion starts at 1.0 in Q14 (41_filter.md R88, R89). -/
theorem accStart_eq : accStart = { c0 := ⟨16384, 0⟩, c1 := ⟨0, 0⟩, c2 := ⟨0, 0⟩ } := by decide

/-- The first factor puts its negated pole, in Q14, beside the constant term (41_filter.md R89). -/
theorem expandBy_accStart (z : Cpx) :
    expandBy accStart z =
      { c0 := ⟨16384, 0⟩
        c1 := ⟨sat16 (asr (-(16384 * z.re)) 15), sat16 (asr (-(16384 * z.im)) 15)⟩
        c2 := ⟨0, 0⟩ } := by
  simp [accStart_eq, expandBy, cadd, cmulneg, cmulExact]

/-- The denominator's second coefficient: the saturated sum of the two negated poles in Q14 (41_filter.md R89). -/
theorem expand_c1_re (z1 z2 : Cpx) :
    (expand z1 z2).c1.re = sat16 (sat16 (asr (-(16384 * z1.re)) 15) + sat16 (asr (-(16384 * z2.re)) 15)) := by
  rw [expand, expandBy_accStart]
  simp [expandBy, cadd, cmulneg, cmulExact]

/-- The denominator's third coefficient: the negated product of the first factor's term and the second pole
(41_filter.md R89). -/
theorem expand_c2_re (z1 z2 : Cpx) :
    (expand z1 z2).c2.re =
      sat16 (asr (-(sat16 (asr (-(16384 * z1.re)) 15) * z2.re - sat16 (asr (-(16384 * z1.im)) 15) * z2.im)) 15) := by
  rw [expand, expandBy_accStart]
  simp [expandBy, cadd, cmulneg, cmulExact]

/-- A numerator coefficient under the plain scale: the numerator row sums to 4 (41_filter.md R87, R91). -/
theorem normCoef_eq (c : Config) (sumA : Int) (b : Nat) :
    normCoef c sumA b = sat16 (asr (b * asr ((sumA.natAbs * 65536 / 4 : Nat) * c.kCorr) 16) 16) := rfl

/-- Settles O26: the expansion gives the denominator, and the numerator row 1, 2, 1 is scaled by its sum. -/
theorem designCoefficientsFollowFromThePoles : Obligations.DesignCoefficientsFollowFromThePoles := by
  intro c t d sat p q scale corr
  have hnum (b : Nat) : normCoef c d.sumA b = sat (b * corr / 65536) := normCoef_eq c d.sumA b
  have hone : sat (((1 : Nat) : Int) * corr / 65536) = sat (corr / 65536) := by rw [Nat.cast_one, one_mul]
  refine ⟨expand_c0_re d.z1 d.z2, expand_c1_re d.z1 d.z2, expand_c2_re d.z1 d.z2, rfl, ?first, ?second, rfl⟩
  case first => exact (hnum 1).trans hone
  case second => exact hnum 2

/-! ### The reference designs (41_filter.md R94, R95) -/

/-- The reference design of an index: candidates 1 and 2 are retained, at the angles 3 pi/4 and 5 pi/4. -/
theorem designAt_reference (t : Nat) :
    let wc := tanEntry referenceConfig t
    designAt referenceConfig t = designFromPoles referenceConfig t wc
      (bilinear ⟨asr (wc * -23170) 15, asr (wc * 23170) 15⟩)
      (bilinear ⟨asr (wc * -23170) 15, asr (wc * -23170) 15⟩) := by
  have hpoles : retainedPoles referenceConfig = [1, 2] := by decide +kernel
  have hcos1 : cosEntry referenceConfig (poleAngle referenceConfig 1) = -23170 := by decide +kernel
  have hsin1 : sinEntry referenceConfig (poleAngle referenceConfig 1) = 23170 := by decide +kernel
  have hcos2 : cosEntry referenceConfig (poleAngle referenceConfig 2) = -23170 := by decide +kernel
  have hsin2 : sinEntry referenceConfig (poleAngle referenceConfig 2) = -23170 := by decide +kernel
  simp only [designAt_of_retainedPoles hpoles, scaledPole, hcos1, hsin1, hcos2, hsin2]

/-- Settles O31: with the two poles known, each of the designs is evaluated. -/
theorem referenceDesignsAreStableWithGainNearOne : Obligations.ReferenceDesignsAreStableWithGainNearOne := by
  unfold Obligations.ReferenceDesignsAreStableWithGainNearOne
  simp only [designAt_reference]
  constructor
  case left => decide +kernel
  case right => decide +kernel

end Sys2Proof.Machine

namespace Sys2Proof.Machine

/-! ## BUILD_ENV: the envelope table and its shape (42_envelope.md R96 to R101) -/

/-! ### The raw amplitude on each stretch (42_envelope.md R97, R98) -/

/-- Attack: the ramp from 0 to 255 (42_envelope.md R97). -/
theorem envRaw_attack {e : Envelope} {i : Nat} (h : i < attackEnd e) : envRaw e i = i * 255 / e.atk := if_pos h

/-- Decay: the ramp from 255 to the sustain level, also past the sustain end (42_envelope.md R97). -/
theorem envRaw_decay {e : Envelope} {i : Nat} (hae : attackEnd e ≤ i) (hde : i < decayEnd e) :
    envRaw e i = 255 - (255 - e.sus) * (i - attackEnd e) / e.dec := by
  rw [envRaw, if_neg hae.not_gt, if_pos hde, fdiv]

/-- The decay ends no earlier than the attack (42_envelope.md R96). -/
theorem attackEnd_le_decayEnd (e : Envelope) : attackEnd e ≤ decayEnd e := Nat.le_add_right _ _

/-- Sustain: the constant level (42_envelope.md R97). -/
theorem envRaw_sustain {e : Envelope} {i : Nat} (hde : decayEnd e ≤ i) (hse : i < sustainEnd e) :
    envRaw e i = e.sus := by
  rw [envRaw, if_neg ((attackEnd_le_decayEnd e).trans hde).not_gt, if_neg hde.not_gt, if_pos hse]

/-- Release: the ramp from the sustain level to 0. The flat 0 of a zero-length release is `Nat`'s quotient by 0
(42_envelope.md R97, R98). -/
theorem envRaw_release {e : Envelope} {i : Nat} (hde : decayEnd e ≤ i) (hse : sustainEnd e ≤ i) :
    envRaw e i = e.sus * (255 - i) / e.rel := by
  rw [envRaw, if_neg ((attackEnd_le_decayEnd e).trans hde).not_gt, if_neg hde.not_gt, if_neg hse.not_gt, fdiv]
  split
  case isTrue => rfl
  case isFalse hrel => rw [Nat.eq_zero_of_not_pos hrel, Nat.div_zero]

/-! ### Bounds of the raw amplitude (42_envelope.md R97) -/

/-- Through the decay the amplitude stays at or above the sustain level. -/
theorem sus_le_envRaw_decay {e : Envelope} (hsus : e.sus ≤ 255) {i : Nat} (hae : attackEnd e ≤ i)
    (hde : i < decayEnd e) : e.sus ≤ envRaw e i := by
  have hspan : i - attackEnd e ≤ e.dec := by unfold decayEnd at hde; unfold attackEnd; omega
  have hfall : (255 - e.sus) * (i - attackEnd e) / e.dec ≤ 255 - e.sus :=
    Nat.div_le_of_le_mul (Nat.mul_comm e.dec _ ▸ Nat.mul_le_mul_left _ hspan)
  rw [envRaw_decay hae hde]
  omega

/-- From the decay's end on the amplitude stays at or below the sustain level. -/
theorem envRaw_le_sus {e : Envelope} {i : Nat} (hde : decayEnd e ≤ i) : envRaw e i ≤ e.sus := by
  rcases lt_or_ge i (sustainEnd e) with hse | hse
  · exact (envRaw_sustain hde hse).le
  · have hspan : 255 - i ≤ e.rel := by unfold sustainEnd at hse; omega
    rw [envRaw_release hde hse]
    exact Nat.div_le_of_le_mul (Nat.mul_comm e.rel _ ▸ Nat.mul_le_mul_left _ hspan)

/-- A raw amplitude fits a byte. -/
theorem envRaw_le {e : Envelope} (hsus : e.sus ≤ 255) (i : Nat) : envRaw e i ≤ 255 := by
  rcases lt_or_ge i (attackEnd e) with hae | hae
  · rw [envRaw_attack hae]
    exact Nat.div_le_of_le_mul (Nat.mul_le_mul_right _ hae.le)
  rcases lt_or_ge i (decayEnd e) with hde | hde
  · rw [envRaw_decay hae hde]
    exact Nat.sub_le _ _
  · exact (envRaw_le_sus hde).trans hsus

/-! ### The raw amplitude rises, then falls (42_envelope.md R101) -/

/-- The attack rises. -/
theorem envRaw_mono_attack {e : Envelope} {i j : Nat} (hij : i ≤ j) (hae : j < attackEnd e) :
    envRaw e i ≤ envRaw e j := by
  rw [envRaw_attack (hij.trans_lt hae), envRaw_attack hae]
  exact Nat.div_le_div_right (Nat.mul_le_mul_right _ hij)

/-- The decay falls. -/
theorem envRaw_anti_decay {e : Envelope} {i j : Nat} (hae : attackEnd e ≤ i) (hij : i ≤ j) (hde : j < decayEnd e) :
    envRaw e j ≤ envRaw e i := by
  rw [envRaw_decay hae (hij.trans_lt hde), envRaw_decay (hae.trans hij) hde]
  exact Nat.sub_le_sub_left (Nat.div_le_div_right (Nat.mul_le_mul_left _ (Nat.sub_le_sub_right hij _))) _

/-- From the decay's end on, sustain and then release do not rise. -/
theorem envRaw_anti_tail {e : Envelope} {i j : Nat} (hde : decayEnd e ≤ i) (hij : i ≤ j) :
    envRaw e j ≤ envRaw e i := by
  rcases lt_or_ge i (sustainEnd e) with hse | hse
  · exact (envRaw_le_sus (hde.trans hij)).trans_eq (envRaw_sustain hde hse).symm
  · rw [envRaw_release hde hse, envRaw_release (hde.trans hij) (hse.trans hij)]
    exact Nat.div_le_div_right (Nat.mul_le_mul_left _ (Nat.sub_le_sub_left hij _))

/-- From the attack's end on the amplitude never rises, whatever the order of `de` and `se`: the sustain level
separates the decay from what follows it. -/
theorem envRaw_anti {e : Envelope} (hsus : e.sus ≤ 255) {i j : Nat} (hae : attackEnd e ≤ i) (hij : i ≤ j) :
    envRaw e j ≤ envRaw e i := by
  rcases lt_or_ge j (decayEnd e) with hj | hj
  · exact envRaw_anti_decay hae hij hj
  rcases lt_or_ge i (decayEnd e) with hi | hi
  · exact (envRaw_le_sus hj).trans (sus_le_envRaw_decay hsus hae hi)
  · exact envRaw_anti_tail hi hij

/-! ### Gain and clamp, and the command (42_envelope.md R99, R100) -/

/-- The gain, the shift and the clamp, in plain arithmetic (42_envelope.md R99). -/
theorem envEntry_eq (c : Config) (e : Envelope) (g i : Nat) :
    envEntry c e g i = min (envRaw e i * g / 256) c.envMax := rfl

/-- Gain, shift and clamp keep the order of the raw amplitudes (42_envelope.md R101). -/
theorem envEntry_le_envEntry {e : Envelope} {i j : Nat} (h : envRaw e i ≤ envRaw e j) (c : Config) (g : Nat) :
    envEntry c e g i ≤ envEntry c e g j := by
  rw [envEntry_eq, envEntry_eq]
  exact min_le_min_right _ (Nat.div_le_div_right (Nat.mul_le_mul_right _ h))

/-- Settles O33: the raw amplitude rises to the attack's end and never rises after it, the sustain level is constant,
and gain, shift and clamp keep the order. -/
theorem envelopeKeepsItsShape : Obligations.EnvelopeKeepsItsShape := by
  intro c e g _ _ hsus _
  have hfall : ∀ i j, attackEnd e ≤ i → i ≤ j → envEntry c e g j ≤ envEntry c e g i :=
    fun i j hae hij => envEntry_le_envEntry (envRaw_anti hsus hae hij) c g
  refine ⟨fun i j hij hae => envEntry_le_envEntry (envRaw_mono_attack hij hae) c g,
    fun hvalid => ⟨fun i j hae hij _ => hfall i j hae hij, fun i j hse hij _ => ?release,
      fun i j hi hi' hj hj' => ?sustain⟩,
    fun _ i j hae hij _ => hfall i j hae hij⟩
  case release => exact hfall i j ((attackEnd_le_decayEnd e).trans (hvalid.trans hse)) hij
  case sustain => rw [envEntry_eq, envEntry_eq, envRaw_sustain hi hi', envRaw_sustain hj hj']

/-- The sustain level is a byte of ENV (10_state.md R33). -/
theorem envelopeOf_sus_le (x : Inputs) : (envelopeOf x).sus ≤ 255 :=
  Nat.le_of_lt_succ (Nat.mod_lt _ (by decide))

/-- BUILD_ENV commits the table of ENV and LIN_GAIN and completes (42_envelope.md R100). -/
theorem exec_buildEnv {s : State} (hw : s.cfg.wellFormed = true) :
    exec .buildEnv s =
      .next { s with
        envLut := s.envLut.storeFrom 0 (envTable s.cfg (envelopeOf s.inputs) (linGainOf s.inputs))
        done := true, err := .none, fsm := .idle } := by
  rw [exec_eq, guarded_of_wf hw]
  rfl

/-- An entry of a table stored in a canonical RAM is read back whole: ENV_MAX fits 16 bits (42_envelope.md R99,
R100). -/
theorem read_storeFrom_envTable_toNat {c : Config} (hc : c.wellFormed = true) {m : Memory} (hm : m.wf = true)
    (e : Envelope) (g : Nat) {i : Nat} (hi : i < 256) :
    ((m.storeFrom 0 (envTable c e g)).read i).toNat = envEntry c e g i := by
  obtain ⟨-, -, -, -, -, -, -, hmax, -⟩ := wellFormed_parts hc
  have hle := envEntry_le c e g i
  rw [Memory.read_storeFrom_full hm (envTable_length c e g) hi, envTable_getD c e g hi, BitVec.toNat_ofNat]
  exact Nat.mod_eq_of_lt (by omega)

/-- Settles O32: the stored table is read back entry by entry, and the operands are the bytes of ENV. -/
theorem buildEnvWritesEveryEntry : Obligations.BuildEnvWritesEveryEntry := by
  intro s hw hmem
  refine ⟨_, exec_buildEnv hw, Memory.wf_storeFrom hmem _ 0, fun i hi => ?_⟩
  intro atk dec sus rel raw
  have hraw : envRaw (envelopeOf s.inputs) i = raw := rfl
  have hentry : ∀ g, envEntry s.cfg (envelopeOf s.inputs) g i = min (raw * g / 256) s.cfg.envMax :=
    fun g => hraw ▸ envEntry_eq s.cfg (envelopeOf s.inputs) g i
  exact ⟨hraw ▸ envRaw_le (envelopeOf_sus_le s.inputs) i,
    (read_storeFrom_envTable_toNat hw hmem _ _ hi).trans (hentry _), hentry⟩

end Sys2Proof.Machine

namespace Sys2Proof.Machine

/-! ## NOP, DERIVE and RELEASE (43_orchestrator.md R102 to R112, R118) -/

/-- Under a well-formed configuration every command answers its result. -/
theorem exec_eq_commandResult {s : State} (hw : s.cfg.wellFormed = true) (i : Instr) :
    exec i s = .next (commandResult i s) := by
  rw [exec_eq, guarded_of_wf hw]

/-- Settles O21: the result of NOP is the completion, after which the line is CTRL.IE. -/
theorem nopOnlyCompletes : Obligations.NopOnlyCompletes := by
  intro s hw
  refine ⟨exec_eq_commandResult hw .nop, fun t ht => ?_⟩
  obtain ⟨-, rfl⟩ := exec_eq_next ht
  exact Bool.and_true s.ctrlIE

/-- A number below 2^w is read back from its field of w bits. -/
theorem toNat_ofNat_of_lt {w n : Nat} (h : n < 2 ^ w) : (BitVec.ofNat w n).toNat = n :=
  (BitVec.toNat_ofNat n w).trans (Nat.mod_eq_of_lt h)

/-- The sample count in plain arithmetic: clearing bit 0 is halving and doubling (43_orchestrator.md R102). -/
theorem sampleCount_eq (sr ms : Nat) :
    sampleCount sr ms = min (max ((2 * (sr * ms) + 1000) / 2000) 256) 32767 / 2 * 2 := by
  have hclear : ∀ v, clearBit0 v = v / 2 * 2 := fun v => by unfold clearBit0; omega
  exact hclear _

/-- Both oscillator periods fit their registers (43_orchestrator.md R103). -/
theorem deriveRegs_period_toNat (c : Config) (x : Inputs) :
    (deriveRegs c x).osc1Period.toNat = oscPeriod (sampleRateOf x) (osc1FreqOf x) ∧
      (deriveRegs c x).osc2Period.toNat = oscPeriod (sampleRateOf x) (osc2FreqOf x) :=
  ⟨toNat_ofNat_of_lt (oscPeriod_inputs_range x _).2, toNat_ofNat_of_lt (oscPeriod_inputs_range x _).2⟩

/-- The inverse of an oscillator period fits its 17 bits (43_orchestrator.md R104). -/
theorem periodInverse_oscPeriod_lt (x : Inputs) (f : Nat) :
    periodInverse (oscPeriod (sampleRateOf x) f) < 2 ^ 17 :=
  (periodInverse_range (oscPeriod_inputs_range x f).1).trans_lt (by decide)

/-- Each inverse is that of the period beside it (43_orchestrator.md R104). -/
theorem deriveRegs_pinv_toNat (c : Config) (x : Inputs) :
    (deriveRegs c x).osc1Pinv.toNat = periodInverse (deriveRegs c x).osc1Period.toNat ∧
      (deriveRegs c x).osc2Pinv.toNat = periodInverse (deriveRegs c x).osc2Period.toNat := by
  obtain ⟨hp1, hp2⟩ := deriveRegs_period_toNat c x
  rw [hp1, hp2]
  exact ⟨toNat_ofNat_of_lt (periodInverse_oscPeriod_lt x _), toNat_ofNat_of_lt (periodInverse_oscPeriod_lt x _)⟩

/-- The envelope step is that of the sample count beside it (43_orchestrator.md R105). -/
theorem deriveRegs_envStep_toNat (c : Config) (x : Inputs) :
    (deriveRegs c x).envStep.toNat = envStep (deriveRegs c x).sampleCount.toNat := by
  obtain ⟨-, hcount⟩ := sampleCount_range (sampleRateOf x) (durationOf x)
  rw [deriveRegs_sampleCount_toNat]
  exact toNat_ofNat_of_lt ((envStep_range hcount).2.trans_lt (by decide))

/-- Both amplitudes fit their registers, since MAX_AMP does (43_orchestrator.md R106, 10_state.md R45). -/
theorem deriveRegs_amp_toNat {c : Config} (hc : c.wellFormed = true) (x : Inputs) :
    (deriveRegs c x).amp1.toNat = mixAmp1 c (mixOf x) ∧ (deriveRegs c x).amp2.toNat = mixAmp2 c (mixOf x) := by
  obtain ⟨-, -, -, -, -, -, hmax, -⟩ := wellFormed_parts hc
  have hsum := mixAmp_sum c (mixOf x)
  exact ⟨toNat_ofNat_of_lt (by omega), toNat_ofNat_of_lt (by omega)⟩

/-- Settles O34: each value fits its register, so each narrowing is exact. -/
theorem deriveWritesTheDerivationSet : Obligations.DeriveWritesTheDerivationSet := by
  intro s hw d
  obtain ⟨hp1, hp2⟩ := deriveRegs_period_toNat s.cfg s.inputs
  obtain ⟨hi1, hi2⟩ := deriveRegs_pinv_toNat s.cfg s.inputs
  obtain ⟨ha1, ha2⟩ := deriveRegs_amp_toNat hw s.inputs
  have hcount : d.sampleCount.toNat = sampleCountOf s.inputs := deriveRegs_sampleCount_toNat s.cfg s.inputs
  have hamp2 : d.amp2.toNat = s.cfg.maxAmp - d.amp1.toNat := by
    rw [ha1]
    exact ha2
  exact ⟨exec_eq_commandResult hw .derive, hcount.trans (sampleCount_eq _ _), hp1, hp2, hi1, hi2,
    deriveRegs_envStep_toNat s.cfg s.inputs, ha1, hamp2, rfl⟩

/-- Settles O35: what DERIVE commits is a derivation. -/
theorem deriveResultsAreInRange : Obligations.DeriveResultsAreInRange :=
  fun s hw => ⟨_, exec_eq_commandResult hw .derive, deriveRegs_inRange hw s.inputs⟩

/-- The release of the held handle, as one record update: a message and a handle that is no longer live, or nothing
where no handle is held (60_exceptions.md R129). -/
theorem releaseHeld_eq (s : State) :
    releaseHeld s =
      { s with
        outbox := s.outbox ++ (if s.buffer.handle = 0 then [] else [.allocRelease s.buffer.handle])
        live := if s.buffer.handle = 0 then s.live else s.live.erase s.buffer.handle } := by
  rcases releaseHeld_cases s with ⟨h0, h⟩ | ⟨h0, h⟩
  · rw [h, if_pos h0, if_pos h0, List.append_nil]
  · rw [h, if_neg h0, if_neg h0]
    rfl

/-- Settles O48: the release, then the cleared registers and the completion. -/
theorem releaseFreesTheBuffer : Obligations.ReleaseFreesTheBuffer := by
  intro s hw
  refine ⟨commandResult .release s, exec_eq_commandResult hw .release, ?_, statusWord_getLsbD _ 8⟩
  rw [commandResult, releaseHeld_eq]
  rfl

/-! ## SYNTHESIZE, first phase (43_orchestrator.md R107, R108, R114 to R117) -/

/-- With SAMPLE_RATE = 0 the result is ERR_ARG (43_orchestrator.md R114). -/
theorem synthesize_zeroRate {s : State} (hsr : s.inputs.sampleRate = 0) : synthesize s = raiseError .arg s :=
  if_pos hsr

/-- In another class than BUF_CAP the result is a request (43_orchestrator.md R114). -/
theorem synthesize_newClass {s : State} (hsr : s.inputs.sampleRate ≠ 0)
    (hclass : allocSize (sampleCountOf s.inputs) ≠ s.buffer.cap.toNat) :
    synthesize s = requestBuffer (allocSize (sampleCountOf s.inputs)) (synthCompute s.cfg s.inputs) s := by
  have hneeds : needsAlloc (sampleCountOf s.inputs) s.buffer = true := decide_eq_true hclass
  rw [synthesize, if_neg hsr, if_pos hneeds]

/-- In the class of BUF_CAP the result is a commit to the buffer held (43_orchestrator.md R114, R117). -/
theorem synthesize_sameClass {s : State} (hsr : s.inputs.sampleRate ≠ 0)
    (hclass : allocSize (sampleCountOf s.inputs) = s.buffer.cap.toNat) :
    synthesize s = synthCommit (synthCompute s.cfg s.inputs) s.buffer s := by
  have hkeeps : needsAlloc (sampleCountOf s.inputs) s.buffer ≠ true := by simp [needsAlloc, hclass]
  rw [synthesize, if_neg hsr, if_neg hkeeps]

/-- Settles O36: the command ends by `raiseError`, which is a completion. -/
theorem synthesizeRejectsZeroSampleRate : Obligations.SynthesizeRejectsZeroSampleRate := by
  intro s hw hsr
  refine ⟨raiseError .arg s, ?_, rfl, fun r hr => regValue_complete hr _ s⟩
  rw [exec_eq_commandResult hw, commandResult, synthesize_zeroRate hsr]

/-- SYNTHESIZE in a new allocation class answers the request (43_orchestrator.md R114). -/
theorem exec_synthesize_newClass {s : State} (hw : s.cfg.wellFormed = true) (hsr : s.inputs.sampleRate ≠ 0)
    (hclass : allocSize (sampleCountOf s.inputs) ≠ s.buffer.cap.toNat) :
    exec .synthesize s =
      .next (requestBuffer (allocSize (sampleCountOf s.inputs)) (synthCompute s.cfg s.inputs) s) := by
  rw [exec_eq_commandResult hw, commandResult, synthesize_newClass hsr hclass]

/-- Settles O37: the request is for the class of the sample count, which is in 256..32766. -/
theorem synthesizeRequestsABuffer : Obligations.SynthesizeRequestsABuffer := by
  intro s hw hsr sc size hclass
  obtain ⟨-, hcount⟩ := sampleCount_range s.inputs.sampleRate.toNat s.inputs.durationMs.toNat
  exact ⟨exec_synthesize_newClass hw hsr hclass, allocSize_range hcount⟩

/-- An entry of the decibel ROM is a u32 (10_state.md R43, R45). -/
theorem dbEntry_lt {c : Config} (hc : c.wellFormed = true) (k : Nat) : dbEntry c k < 2 ^ 32 := by
  obtain ⟨-, -, -, -, ⟨-, -, -, -, hentries⟩, -⟩ := wellFormed_parts hc
  unfold dbEntry
  by_cases hk : k < c.dbRom.length
  · exact Nat.lt_succ_of_le (hentries _ (getD_mem_of_lt hk))
  · rw [List.getD_eq_default _ _ (Nat.not_lt.mp hk)]
    decide

/-- The converted gain fits LIN_GAIN (43_orchestrator.md R107). -/
theorem synthCompute_gain_toNat {c : Config} (hc : c.wellFormed = true) (x : Inputs) :
    (synthCompute c x).gain.toNat = linGain c (gainDbOf x) :=
  toNat_ofNat_of_lt (dbEntry_lt hc _)

/-- The commit set's entries, stored in a canonical RAM, are read back as the envelope under the converted gain
(43_orchestrator.md R113, R115). -/
theorem read_storeFrom_synthCompute_toNat {c : Config} (hc : c.wellFormed = true) {m : Memory} (hm : m.wf = true)
    (x : Inputs) {i : Nat} (hi : i < 256) :
    ((m.storeFrom 0 (synthCompute c x).lut).read i).toNat =
      envEntry c (envelopeOf x) (synthCompute c x).gain.toNat i := by
  rw [synthCompute_gain_toNat hc]
  exact read_storeFrom_envTable_toNat hc hm (envelopeOf x) (linGain c (gainDbOf x)) hi

/-- Settles O38: the commit is to the buffer held, and the stored table is read back entry by entry. -/
theorem synthesizeReusesTheBuffer : Obligations.SynthesizeReusesTheBuffer := by
  intro s hw hsr hmem hclass
  let k := synthCompute s.cfg s.inputs
  refine ⟨s.envLut.storeFrom 0 k.lut, k.gain, ?_, Memory.wf_storeFrom hmem k.lut 0,
    synthCompute_gain_toNat hw s.inputs, fun i hi => read_storeFrom_synthCompute_toNat hw hmem s.inputs hi⟩
  rw [exec_eq_commandResult hw, commandResult, synthesize_sameClass hsr hclass, synthCommit_eq]
  rfl

/-! ## The agents' answers (43_orchestrator.md R114, R115) -/

/-- A block with no command in RUN does not act after an arrival, whatever the schedule says (log 2). -/
theorem settle_wait {s : State} (h : ∀ i, s.fsm ≠ .run i) (b : Bool) : settle b s = .next s := by
  cases b with
  | false => exact settle_false s
  | true => exact (settle_true s).trans (progress_wait h)

/-- The answer FAIL in ALLOC_WAIT completes with ERR_ALLOC_FAIL (43_orchestrator.md R114). -/
theorem takeEvent_allocFail {s : State} {size : Nat} {k : CommitSet} (hwait : s.fsm = .allocWait size k) :
    takeEvent (.allocAnswer s.epoch .fail) s = .next (complete .allocFail s) := by
  simp [takeEvent, onAllocAnswer, hwait]

/-- The answer OK(h) in ALLOC_WAIT, with h not 0 and not live, grants the buffer (43_orchestrator.md R114). -/
theorem takeEvent_allocOk {s : State} {size : Nat} {k : CommitSet} {h : Word} (hwait : s.fsm = .allocWait size k)
    (hh : h ≠ 0) (hnew : h ∉ s.live) :
    takeEvent (.allocAnswer s.epoch (.ok h)) s = .next (synthGranted size k h s) := by
  simpa [takeEvent, onAllocAnswer, hwait] using ⟨hh, hnew⟩

/-- GenDone in GEN_WAIT completes with ERR_NONE (43_orchestrator.md R115). -/
theorem takeEvent_genDone {s : State} (hwait : s.fsm = .genWait) :
    takeEvent (.genDone s.epoch) s = .next (complete .none s) := by
  simp [takeEvent, onGenDone, hwait]

/-- The flags, ERR, the command state machine, the arrivals, the reply and the messages sent show in no register but
STATUS. -/
theorem regValue_congr_status {r : Reg} (hr : r ≠ .status) (s : State) (done : Bool) (err : ErrCode) (f : Fsm)
    (inbox : List Arrival) (a : Reply) (outbox : List PortMessage) :
    regValue r { s with done := done, err := err, fsm := f, inbox := inbox, reply := a, outbox := outbox } =
      regValue r s := by
  cases r with
  | status => exact absurd rfl hr
  | _ => rfl

/-- The step of the answer FAIL: the idle block does not act after it. -/
theorem step_allocFail {s : State} {size : Nat} {k : CommitSet} {b : Bool} {rest : List Arrival}
    (hw : s.cfg.wellFormed = true) (hwait : s.fsm = .allocWait size k)
    (hin : s.inbox = { event := .allocAnswer s.epoch .fail, runs := b } :: rest) :
    step s = .next (complete .allocFail { s with inbox := rest, reply := .none }) := by
  rw [step_of_take hw hin (takeEvent_allocFail (s := { s with inbox := rest, reply := .none }) hwait),
    settle_wait (by simp)]

/-- The step of the answer OK(h): the block in GEN_WAIT does not act after it. -/
theorem step_allocOk {s : State} {size : Nat} {k : CommitSet} {h : Word} {b : Bool} {rest : List Arrival}
    (hw : s.cfg.wellFormed = true) (hwait : s.fsm = .allocWait size k) (hh : h ≠ 0) (hnew : h ∉ s.live)
    (hin : s.inbox = { event := .allocAnswer s.epoch (.ok h), runs := b } :: rest) :
    step s = .next (synthGranted size k h { s with inbox := rest, reply := .none }) := by
  rw [step_of_take hw hin (takeEvent_allocOk (s := { s with inbox := rest, reply := .none }) hwait hh hnew),
    settle_wait (by simp [synthGranted_eq])]

/-- The step of GenDone: the idle block does not act after it. -/
theorem step_genDone {s : State} {b : Bool} {rest : List Arrival} (hw : s.cfg.wellFormed = true)
    (hwait : s.fsm = .genWait) (hin : s.inbox = { event := .genDone s.epoch, runs := b } :: rest) :
    step s = .next (complete .none { s with inbox := rest, reply := .none }) := by
  rw [step_of_take hw hin (takeEvent_genDone (s := { s with inbox := rest, reply := .none }) hwait),
    settle_wait (by simp)]

/-- Settles O39: the completion shows in STATUS alone. -/
theorem failedAllocationChangesOnlyStatus : Obligations.FailedAllocationChangesOnlyStatus :=
  fun s _ _ _ _ hw hwait hin =>
    ⟨_, step_allocFail hw hwait hin, rfl, fun _ hr => regValue_congr_status hr s _ _ _ _ _ s.outbox⟩

/-- Settles O40: a grant, written out field by field. -/
theorem grantedBufferIsCommitted : Obligations.GrantedBufferIsCommitted := by
  intro s size k h b rest hw hwait hh hnew hin
  rw [step_allocOk hw hwait hh hnew hin, synthGranted_eq]

/-- Settles O41: the completion of GenDone, written out field by field. -/
theorem genDoneCompletesSynthesize : Obligations.GenDoneCompletesSynthesize :=
  fun _ _ _ hw hwait hin => step_genDone hw hwait hin

/-! ## A whole SYNTHESIZE, from IDLE to its completion (43_orchestrator.md R113 to R116) -/

/-- A run is its first step and the run from the state after it. -/
theorem run_succ_of_step {M : Host.Core} {s t : M.State} (h : M.step s = .next t) {n : Nat}
    {o : Host.Outcome M.State M.Fault M.Refusal} (hrun : M.run n t = o) : M.run (n + 1) s = o := by
  rw [Host.Core.run, h]
  exact hrun

/-- A run of one step is the step. -/
theorem run_one_of_step {M : Host.Core} {s t : M.State} (h : M.step s = .next t) : M.run 1 s = .next t :=
  run_succ_of_step h rfl

/-- The word of SYNTHESIZE, written to CMD of an idle block in a new allocation class and run in the same step, sends
the request and leaves the block waiting with its commit set (43_orchestrator.md R114). -/
theorem step_synthesize_newClass {s : State} {rest : List Arrival} (hw : s.cfg.wellFormed = true)
    (hidle : s.fsm = .idle) (hsr : s.inputs.sampleRate ≠ 0)
    (hclass : allocSize (sampleCountOf s.inputs) ≠ s.buffer.cap.toNat)
    (hin : s.inbox = { event := .hostWrite 0x00C 32 0x00000005, runs := true } :: rest) :
    step s = .next { s with
      inbox := rest
      reply := .written
      done := false
      err := .none
      outbox := s.outbox ++ [.allocRequest (allocSize (sampleCountOf s.inputs))]
      fsm := .allocWait (allocSize (sampleCountOf s.inputs)) (synthCompute s.cfg s.inputs) } :=
  (stepRunsTheDecodedCommand s (encode .synthesize) .synthesize rest hw ((busy_eq_false_iff s).mpr hidle) rfl
    (decode_encode .synthesize) hin).trans (exec_synthesize_newClass hw hsr hclass)

/-- Settles O47: the request, then the answer FAIL; neither shows in a register but STATUS. -/
theorem failedSynthesisLeavesEveryRegister : Obligations.FailedSynthesisLeavesEveryRegister := by
  intro s b rest hw hidle hsr hclass hin
  -- `by exact` is elaborated last, when the state of the second step is known (it is not `s`).
  have hrun := run_succ_of_step (M := core) (step_synthesize_newClass hw hidle hsr hclass hin)
    (run_one_of_step (step_allocFail (by exact hw) rfl rfl))
  exact ⟨_, hrun, rfl, rfl, rfl, rfl, rfl, fun r hr => regValue_congr_status hr s _ _ _ _ _ _, rfl, rfl⟩

/-- A waiting block that is answered OK(h) and then GenDone commits the grant and completes (43_orchestrator.md
R114, R115). -/
theorem run_granted {s : State} {size : Nat} {k : CommitSet} {h : Word} {b c : Bool} {rest : List Arrival}
    (hw : s.cfg.wellFormed = true) (hwait : s.fsm = .allocWait size k) (hh : h ≠ 0) (hnew : h ∉ s.live)
    (hin : s.inbox = { event := .allocAnswer s.epoch (.ok h), runs := b } ::
      { event := .genDone s.epoch, runs := c } :: rest) :
    core.run 2 s = .next (complete .none (synthGranted size k h { s with inbox := rest, reply := .none })) := by
  have hgrant := step_allocOk hw hwait hh hnew hin
  rw [synthGranted_eq] at hgrant ⊢
  refine run_succ_of_step (M := core) hgrant (run_one_of_step ?_)
  exact step_genDone hw rfl rfl

/-- Settles O46: the request, the grant and the completion, one step each; the granted state holds the commit set of
the inputs. -/
theorem synthesisRunsToCompletion : Obligations.SynthesisRunsToCompletion := by
  intro s h b c rest hw hmem hidle hsr hclass hh hnew hin
  obtain ⟨-, hcount⟩ := sampleCount_range (sampleRateOf s.inputs) (durationOf s.inputs)
  obtain ⟨-, -, hmax, hroom⟩ := allocSize_range hcount
  have hcap : (BitVec.ofNat 32 (allocSize (sampleCountOf s.inputs))).toNat = allocSize (sampleCountOf s.inputs) :=
    toNat_ofNat_of_lt (hmax.trans_lt (by decide))
  have hsamples := deriveRegs_sampleCount_toNat s.cfg s.inputs
  have hrun := run_succ_of_step (M := core) (step_synthesize_newClass hw hidle hsr hclass hin)
    (run_granted (by exact hw) rfl hh (by exact hnew) rfl)
  rw [synthGranted_eq] at hrun
  exact ⟨_, hrun, rfl, rfl, rfl, rfl, rfl, rfl, rfl, hcap, hsamples, (hsamples.trans_le hroom).trans_eq hcap.symm,
    rfl, rfl, synthCompute_gain_toNat hw s.inputs, rfl,
    fun i hi => read_storeFrom_synthCompute_toNat hw hmem s.inputs hi, rfl, rfl⟩

/-! ## How long a handle stays valid (43_orchestrator.md R119, 70_reset_and_hazards.md R142) -/

/-- A valid handle is the one held, of a block that is idle or runs a command other than SYNTHESIZE and RELEASE
(43_orchestrator.md R119). -/
theorem handleValid_iff (h : Word) (s : State) :
    handleValid h s = true ↔ h ≠ 0 ∧ s.buffer.handle = h ∧
      (s.fsm = .idle ∨ ∃ i, s.fsm = .run i ∧ i ≠ .synthesize ∧ i ≠ .release) := by
  unfold handleValid
  cases hf : s.fsm with
  | run i => cases i <;> simp
  | idle | allocWait | genWait => simp

/-- Validity depends on the buffer registers and the command state machine alone. -/
theorem handleValid_congr {h : Word} {s t : State} (hs : handleValid h s = true) (hbuf : t.buffer = s.buffer)
    (hfsm : t.fsm = s.fsm) : handleValid h t = true := by
  rw [handleValid_iff] at hs ⊢
  rwa [hbuf, hfsm]

/-- A command other than SYNTHESIZE and RELEASE keeps the buffer and leaves the block idle. -/
theorem commandResult_buffer {i : Instr} (hsynth : i ≠ .synthesize) (hrelease : i ≠ .release) (s : State) :
    (commandResult i s).buffer = s.buffer ∧ (commandResult i s).fsm = .idle := by
  cases i with
  | nop | resolveNote | buildEnv | derive => exact ⟨rfl, rfl⟩
  | designFilter => simp only [commandResult]; split <;> exact ⟨rfl, rfl⟩
  | synthesize => exact absurd rfl hsynth
  | release => exact absurd rfl hrelease

/-- The block's own action keeps a valid handle: the command it runs is neither SYNTHESIZE nor RELEASE. -/
theorem settle_keeps_handleValid {b : Bool} {h : Word} {s t : State} (hs : handleValid h s = true)
    (hp : settle b s = .next t) : handleValid h t = true := by
  rcases settle_eq_next hp with rfl | ⟨i, -, hrun, -, rfl⟩
  · exact hs
  obtain ⟨hh, hheld, hidle | ⟨j, hrun', hsynth, hrelease⟩⟩ := (handleValid_iff h s).mp hs
  · rw [hidle] at hrun
    cases hrun
  · obtain rfl : j = i := Fsm.run.inj (hrun'.symm.trans hrun)
    obtain ⟨hbuf, hfsm⟩ := commandResult_buffer hsynth hrelease s
    exact (handleValid_iff h _).mpr ⟨hh, hbuf ▸ hheld, .inl hfsm⟩

/-- A word offered to CMD keeps a valid handle unless it is the word of SYNTHESIZE or of RELEASE
(30_encoding.md R66, R67). -/
theorem offer_keeps_handleValid {h : Word} {s : State} (hs : handleValid h s = true) (v : Word) :
    handleValid h (offer v s) = true ∨ v = encode .synthesize ∨ v = encode .release := by
  obtain ⟨hh, hheld, -⟩ := (handleValid_iff h s).mp hs
  rcases offer_cases v s with ⟨i, hdec, e⟩ | ⟨_, -, e⟩
  · obtain rfl := (decode_eq_ok_iff v i).mp hdec
    rw [e]
    by_cases hsynth : i = .synthesize
    · exact .inr (.inl (congrArg encode hsynth))
    by_cases hrelease : i = .release
    · exact .inr (.inr (congrArg encode hrelease))
    · exact .inl ((handleValid_iff h _).mpr ⟨hh, hheld, .inr ⟨i, rfl, hsynth, hrelease⟩⟩)
  · rw [e]
    exact .inl ((handleValid_iff h _).mpr ⟨hh, hheld, .inl rfl⟩)

/-- An event keeps a valid handle unless it is a reset or offers SYNTHESIZE or RELEASE: no agent is awaited while a
handle is valid, so no answer takes effect (43_orchestrator.md R119). -/
theorem takeEvent_keeps_handleValid {e : Event} {h : Word} {s t : State} (hs : handleValid h s = true)
    (he : takeEvent e s = .next t) :
    handleValid h t = true ∨ (∃ a, e = .reset a) ∨ e = .hostWrite 0x00C 32 0x00000005 ∨
      e = .hostWrite 0x00C 32 0x00000006 := by
  have hnowait : (∀ size k, s.fsm ≠ .allocWait size k) ∧ s.fsm ≠ .genWait := by
    obtain ⟨-, -, hidle | ⟨i, hrun, -⟩⟩ := (handleValid_iff h s).mp hs
    · simp [hidle]
    · simp [hrun]
  obtain ⟨hnoalloc, hnogen⟩ := hnowait
  rcases takeEvent_eq_next he with ⟨_, _, _, _, -, rfl⟩ | ⟨_, _, v, u, r, rfl, rfl, hu⟩ | ⟨rfl, -⟩ |
    ⟨_, _, hwait, -⟩ | ⟨_, _, _, hwait, -⟩ | ⟨-, hwait, -⟩ | ⟨_, -, hwait, -⟩ | ⟨a, rfl, -⟩
  · exact .inl (handleValid_congr hs rfl rfl)
  · rcases hu with rfl | ⟨-, -, rfl⟩ | ⟨-, -, rfl⟩ | ⟨-, rfl⟩ | ⟨hoff, rfl, -, rfl⟩ | ⟨-, _, rfl⟩
    case inr.inr.inr.inr.inl =>
      obtain rfl := regOffset_of_regAt hoff
      rcases offer_keeps_handleValid hs v with hvalid | rfl | rfl
      · exact .inl (handleValid_congr hvalid rfl rfl)
      · exact .inr (.inr (.inl rfl))
      · exact .inr (.inr (.inr rfl))
    all_goals exact .inl (handleValid_congr hs rfl rfl)
  · exact .inl hs
  · exact absurd hwait (hnoalloc _ _)
  · exact absurd hwait (hnoalloc _ _)
  · exact absurd hwait hnogen
  · exact absurd hwait hnogen
  · exact .inr (.inl ⟨a, rfl⟩)

/-- Settles O56: the block's own action keeps a valid handle, so the arrival ended it. -/
theorem handleStaysValidUntilTheNextSynthesis : Obligations.HandleStaysValidUntilTheNextSynthesis := by
  intro s t h hs hstep hend
  have hends {P : Prop} (hvalid : handleValid h t = true) : P := by
    rw [hvalid] at hend
    cases hend
  obtain ⟨-, ⟨-, hp⟩ | ⟨a, rest, u, hin, hu, hp⟩⟩ := step_eq_next hstep
  · exact hends (settle_keeps_handleValid (s := setReply .none s) hs ((settle_true _).trans hp))
  · rcases takeEvent_keeps_handleValid (s := setReply .none { s with inbox := rest }) hs hu with hvalid | hcause
    · exact hends (settle_keeps_handleValid hvalid hp)
    · exact ⟨a.event, a.runs, rest, hin, hcause⟩

end Sys2Proof.Machine

namespace Sys2Proof.Machine

/-! ## Errors, the interrupt line and waiting (60_exceptions.md R121 to R134) -/

/-! ### A command that ends with an error (60_exceptions.md R122) -/

/-- A command that has come back to IDLE with an error is one that raised it, from the state it started in: what a
command commits it completes with ERR_NONE, and what it requests or starts leaves it waiting. -/
theorem commandResult_of_err {i : Instr} {s : State} (hidle : (commandResult i s).fsm = .idle)
    (herr : (commandResult i s).err ≠ .none) : ∃ e, commandResult i s = raiseError e s := by
  cases i with
  | nop | resolveNote | buildEnv | derive | release => exact absurd rfl herr
  | designFilter =>
    by_cases hsr : s.inputs.sampleRate = 0
    · exact ⟨.arg, if_pos hsr⟩
    · rw [commandResult_designFilter hsr] at herr
      exact absurd rfl herr
  | synthesize =>
    change (synthesize s).fsm = .idle at hidle
    rcases synthesize_cases s with ⟨-, h⟩ | ⟨-, -, h⟩ | ⟨-, -, h⟩
    · exact ⟨.arg, h⟩
    · rw [h, requestBuffer_fsm] at hidle
      cases hidle
    · rw [h, synthCommit_fsm] at hidle
      cases hidle

/-- Settles O53: the command raised its error, and raising one is a completion of the state before. -/
theorem errorsCommitNothing : Obligations.ErrorsCommitNothing := by
  intro i s t h hidle herr
  obtain ⟨-, rfl⟩ := exec_eq_next h
  obtain ⟨e, he⟩ := commandResult_of_err hidle herr
  rw [he]
  rfl

/-! ### The interrupt line (60_exceptions.md R128) -/

/-- IE is bit 0 of CTRL (10_state.md R26). -/
theorem ctrlWord_getLsbD_zero (s : State) : (ctrlWord s).getLsbD 0 = s.ctrlIE := by
  unfold ctrlWord
  cases s.ctrlIE <;> rfl

/-- The line is low while DONE = 0. -/
theorem irq_of_not_done {s : State} (h : s.done = false) : irq s = false := by
  rw [irq, h, Bool.and_false]

/-- The line is low while IE = 0. -/
theorem irq_of_not_ctrlIE {s : State} (h : s.ctrlIE = false) : irq s = false := by
  rw [irq, h, Bool.false_and]

/-- The line reaches the controller input of the platform's number (log 13). -/
theorem irqInput_irqNumber (s : State) : irqInput Config.irqNumber s = irq s := by
  rw [irqInput, decide_eq_true rfl, Bool.true_and]

/-- The line reaches no other controller input (log 13). -/
theorem irqInput_of_ne {n : Nat} (h : n ≠ Config.irqNumber) (s : State) : irqInput n s = false := by
  rw [irqInput, decide_eq_false h, Bool.false_and]

/-- Settles O14: a 1 written to bit 1 of STATUS, an acceptance and a reset clear DONE, and a 0 written to CTRL clears
IE. -/
theorem interruptLineFollowsEnableAndDone : Obligations.InterruptLineFollowsEnableAndDone := by
  intro s
  refine ⟨?line, irqInput_irqNumber s, fun n hn => irqInput_of_ne hn s, ?clearDone, ?clearIE,
    fun i hidle => ?accepted, fun b => irq_of_not_done (resetBlock_done b s)⟩
  case line =>
    show irq s = ((ctrlWord s).getLsbD 0 && (statusWord s).getLsbD 1)
    rw [ctrlWord_getLsbD_zero, statusWord_getLsbD]
    rfl
  case clearDone =>
    refine ⟨setReply .written (writeStatus 0x2 s), hostWrite_regOffset .status 0x2 s, irq_of_not_done ?_⟩
    rw [setReply_done, writeStatus_done]
    exact Bool.and_false s.done
  case clearIE =>
    exact ⟨setReply .written (writeCtrl 0 s), hostWrite_regOffset .ctrl 0 s, irq_of_not_ctrlIE rfl, rfl⟩
  case accepted =>
    exact ⟨setReply .written (accept i s), takeEvent_commandWrite hidle (decode_encode i), irq_of_not_done rfl⟩

/-! ### Waiting (60_exceptions.md R134) -/

/-- Settles O18: with no arrival the step is the block's own action, and the block has no command to run. -/
theorem blockWithoutArrivalWaits : Obligations.BlockWithoutArrivalWaits := by
  intro s hw hin hnorun
  rw [step_of_no_arrival hw hin]
  exact progress_wait (s := setReply .none s) hnorun

/-! ### Messages that no agent sends (60_exceptions.md R129, R130) -/

/-- The grant of a handle that is 0 or live stops the machine (log 16). -/
theorem takeEvent_allocOk_bad {s : State} {size : Nat} {k : CommitSet} {h : Word} (hwait : s.fsm = .allocWait size k)
    (hbad : h = 0 ∨ h ∈ s.live) : takeEvent (.allocAnswer s.epoch (.ok h)) s = .fault .badAllocHandle := by
  simpa [takeEvent, onAllocAnswer, hwait] using hbad.resolve_left

/-- An allocator answer of this epoch outside ALLOC_WAIT stops the machine (log 17). -/
theorem takeEvent_allocAnswer_unsolicited {s : State} (hnowait : ∀ size k, s.fsm ≠ .allocWait size k)
    (ans : AllocAnswer) : takeEvent (.allocAnswer s.epoch ans) s = .fault .unsolicitedAllocAnswer := by
  cases hfsm : s.fsm with
  | allocWait size k => exact absurd hfsm (hnowait size k)
  | idle | run _ | genWait => simp [takeEvent, onAllocAnswer, hfsm]

/-- A GenDone of this epoch outside GEN_WAIT stops the machine (log 17). -/
theorem takeEvent_genDone_unsolicited {s : State} (hnowait : s.fsm ≠ .genWait) :
    takeEvent (.genDone s.epoch) s = .fault .unsolicitedGenDone := by
  cases hfsm : s.fsm with
  | genWait => exact absurd hfsm hnowait
  | idle | run _ | allocWait _ _ => simp [takeEvent, onGenDone, hfsm]

/-- A read through the generation port outside GEN_WAIT stops the machine (log 19). -/
theorem takeEvent_genRead_outside {s : State} (hnowait : s.fsm ≠ .genWait) (r : Reg) :
    takeEvent (.genRead r) s = .fault .generationPortRead := by
  cases hfsm : s.fsm with
  | genWait => exact absurd hfsm hnowait
  | idle | run _ | allocWait _ _ => simp [takeEvent, onGenRead, hfsm]

/-- Settles O44: each message is one of those whose stop is stated above. -/
theorem agentMessagesOutOfProtocolFault : Obligations.AgentMessagesOutOfProtocolFault :=
  ⟨fun _ _ _ _ hwait hbad => takeEvent_allocOk_bad hwait hbad,
    fun _ ans hnowait => takeEvent_allocAnswer_unsolicited hnowait ans,
    fun _ hnowait => ⟨takeEvent_genDone_unsolicited hnowait, takeEvent_genRead_outside hnowait⟩⟩

end Sys2Proof.Machine

namespace Sys2Proof.Machine

/-! ## Reset, and answers to requests made before it (70_reset_and_hazards.md R135 to R138) -/

/-! ### The reset values of the register map (70_reset_and_hazards.md R138) -/

/-- CTRL reads 0 while IE is 0 (10_state.md R26). -/
theorem ctrlWord_eq_zero {s : State} (hie : s.ctrlIE = false) : ctrlWord s = 0 := by
  rw [ctrlWord, hie]
  rfl

/-- STATUS reads 0 in an idle block without flags, error and buffer (10_state.md R27). -/
theorem statusWord_eq_zero {s : State} (hidle : busy s = false) (hdone : s.done = false) (hovr : s.ovr = false)
    (herr : s.err = .none) (hbuf : bufValid s = false) : statusWord s = 0 := by
  rw [statusWord, hidle, hdone, hovr, herr, hbuf]
  rfl

/-- Right after reset every register reads its value in the register map. -/
theorem regValue_resetWith (c : Config) (r : Reg) : regValue r (State.resetWith c) = resetRegValue c r := by
  cases r with
  | ctrl => exact ctrlWord_eq_zero rfl
  | status => exact statusWord_eq_zero rfl rfl rfl rfl rfl
  | _ => rfl

/-- Every register other than ID, CLOCK_HZ, A0 and COEF_FRAC resets to 0. -/
theorem resetRegValue_eq_zero (c : Config) {r : Reg} (hid : r ≠ .id) (hclock : r ≠ .clockHz) (ha0 : r ≠ .a0)
    (hfrac : r ≠ .coefFrac) : resetRegValue c r = 0 := by
  cases r with
  | id => exact absurd rfl hid
  | clockHz => exact absurd rfl hclock
  | a0 => exact absurd rfl ha0
  | coefFrac => exact absurd rfl hfrac
  | _ => rfl

/-- Settles O50: each clause is read off from the register map's column of reset values. -/
theorem resetStateReadsItsTable : Obligations.ResetStateReadsItsTable := by
  refine ⟨fun c => ⟨?_, ?_, ?_, ?_, fun r hid hclock ha0 hfrac => ?zero, rfl, rfl, irq_of_not_done rfl⟩, ?_, ?_⟩
  case zero => exact (regValue_resetWith c r).trans (resetRegValue_eq_zero c hid hclock ha0 hfrac)
  all_goals exact regValue_resetWith _ _

/-! ### A reset in any state (70_reset_and_hazards.md R135) -/

/-- The arrivals, the messages sent, the live handles, the epoch and the count of free draws show in no register. -/
theorem regValue_congr_surroundings (r : Reg) (s : State) (inbox : List Arrival) (outbox : List PortMessage)
    (live : List Word) (n m : Nat) :
    regValue r { s with inbox := inbox, outbox := outbox, live := live, epoch := n, draws := m } = regValue r s :=
  rfl

/-- A reset in any state gives every register its reset value. -/
theorem regValue_resetBlock (a : Bool) (s : State) (r : Reg) : regValue r (resetBlock a s) = resetRegValue s.cfg r :=
  (regValue_congr_surroundings r (State.resetWith s.cfg) _ _ _ _ _).trans (regValue_resetWith s.cfg r)

/-- A RAM that lists no entry reads 0 everywhere (10_state.md R49). -/
theorem Memory.read_empty (i : Nat) : (Memory.mk []).read i = 0 := rfl

/-- The step of a reset, whichever state it finds: the block is idle after it and does not act. -/
theorem step_reset {s : State} {a b : Bool} {rest : List Arrival} (hw : s.cfg.wellFormed = true)
    (hin : s.inbox = { event := .reset a, runs := b } :: rest) :
    step s = .next (resetBlock a { s with inbox := rest, reply := .none }) := by
  rw [step_of_take hw hin rfl, settle_wait (by simp)]

/-- Settles O49: the state after the step is that of the reset, field by field. -/
theorem resetRestoresEveryRegister : Obligations.ResetRestoresEveryRegister := by
  intro s a b rest hw hin
  refine ⟨_, step_reset hw hin, fun r => regValue_resetBlock a _ r, resetBlock_fsm .., fun i => ?entry,
    irq_of_not_done (resetBlock_done ..), resetBlock_outbox .., resetBlock_cfg .., resetBlock_inbox ..⟩
  case entry => rw [resetBlock_envLut, Memory.read_empty]

/-! ### Late answers (70_reset_and_hazards.md R136) -/

/-- An allocator answer of an earlier epoch is ignored. -/
theorem takeEvent_allocAnswer_late {n : Nat} {s : State} (hlate : n < s.epoch) (ans : AllocAnswer) :
    takeEvent (.allocAnswer n ans) s = .next s := by
  simp [takeEvent, onAllocAnswer, hlate]

/-- A GenDone of an earlier epoch is ignored. -/
theorem takeEvent_genDone_late {n : Nat} {s : State} (hlate : n < s.epoch) :
    takeEvent (.genDone n) s = .next s := by
  simp [takeEvent, onGenDone, hlate]

/-- Settles O42: both kinds of answer compare their epoch with the block's before they look at its state. -/
theorem lateAgentAnswersAreIgnored : Obligations.LateAgentAnswersAreIgnored :=
  fun _ _ ans hlate => ⟨takeEvent_allocAnswer_late hlate ans, takeEvent_genDone_late hlate⟩

end Sys2Proof.Machine
